-- ==== Sys2Proof/Word.lean ====
section
/-! DEFINITION. The byte, the tag and the packet of pibus CORE, and the size of its one fixed store. -/

namespace Sys2Proof

/-- A byte: 8 bits, unsigned (00_scope.md R10). -/
abbrev Byte := BitVec 8

/-- `TAG_WIDTH` of this hardware (00_scope.md R8, decision D35). -/
abbrev tagWidth : Nat := 8

/-- The opaque group identifier of a queue entry, compared only for equality (10_state.md R36). -/
abbrev Tag := BitVec tagWidth

/-- A packet or byte string: element 0 is the first byte transmitted or received (00_scope.md R11). -/
abbrev Packet := List Byte

/-- `ACC_CAPACITY` of this hardware (00_scope.md R6, decision D5). -/
abbrev accCapacity : Nat := 32

end Sys2Proof
end

