-- ==== Sys2Proof/Syntax.lean ====
section
/-! DEFINITION. The operations of pibus CORE: one constructor of `Instr` per row of spec/opcode_table.json, their operand
types, their identifiers (30_encoding.md R74), the rows of the reaction table (R77), and the frame an event arrives in. -/

namespace Sys2Proof

/-- Video source (10_state.md R25): a fourth value is not representable (30_encoding.md R81e). -/
inductive VideoSource
  | bus
  | companion
  | camera
deriving DecidableEq, Repr

/-- The LED patterns a reaction can request (30_encoding.md R80); `led_req` holds one of them or NONE (10_state.md R27). -/
inductive LedPattern
  | bus
  | companion
  | camera
  | blinkAll
deriving DecidableEq, Repr

/-- The messages DEV can transmit: a pattern, or CLEAR, which `led_req` never holds (30_encoding.md R80). -/
inductive LedMessage
  | pattern (p : LedPattern)
  | clear
deriving DecidableEq, Repr

/-- The six rows of the reaction table (30_encoding.md R77), selected by packet pattern and not by an identifier. -/
inductive Reaction
  | cycle
  | gear
  | fob
  | cdcEnter
  | cdcExitBtn
  | cdcExitMenu
deriving DecidableEq, Repr

/-- The operations that have an identifier: the rows EV and INT of the table (30_encoding.md R74). -/
inductive Opcode
  | rxbyte
  | dtick
  | stick
  | enq
  | rmmatch
  | rmtag
  | discard
  | reset
  | chk
  | xsize
  | frame
  | verify
  | accreset
  | complete
  | dispatch
  | setsrc
  | ledreq
  | txemit
deriving DecidableEq, Repr

/-- How an input frame is to be read: by its operation identifier (30_encoding.md R74) or, for the rows of the reaction
table, as a packet matched against the patterns (R77, R86). The split is the model's (notes/assumptions/2, 12). -/
inductive FrameKind
  | operation
  | packet
deriving DecidableEq, Repr

/-- One input of the block as bytes: what the environment presents as one atomic event (00_scope.md R14, 20_memory.md R58). -/
structure Frame where
  kind  : FrameKind
  bytes : List Byte
deriving DecidableEq, Repr

/-- The operations, with their operands (30_encoding.md R74, R77). A reaction carries the packet that selected it. -/
inductive Instr
  /-- A byte arrives; `fault` bit 0 parity, bit 1 framing, bit 2 overrun (R75). -/
  | rxbyte (data : Byte) (fault : BitVec 3)
  /-- The device tick. -/
  | dtick (lineIdle : Bool)
  /-- The service tick of the transmit queue. -/
  | stick (canTransmit ctsReady lineIdle rxBufferEmpty : Bool)
  /-- Enqueue; the last byte of `bytes` is the placeholder of the checksum. -/
  | enq (bytes : Packet) (sync : Bool) (tag : Tag) (prepend : Bool)
  /-- Remove the first entry equal to `bytes`. -/
  | rmmatch (bytes : Packet)
  /-- Remove every entry with the tag. -/
  | rmtag (tag : Tag)
  /-- Remove every entry. -/
  | discard
  /-- Block reset. -/
  | reset
  /-- XOR checksum. -/
  | chk (bytes : Packet)
  /-- Declared total size. -/
  | xsize (len : Byte)
  /-- Fill the trailing checksum. -/
  | frame (bytes : Packet)
  /-- Verify the trailing checksum. -/
  | verify (bytes : Packet)
  /-- Accumulator reset. -/
  | accreset
  /-- Packet completion. -/
  | complete
  /-- Match a completed packet against the reaction table. -/
  | dispatch (pkt : Packet)
  /-- Switch the video source. -/
  | setsrc (source : VideoSource) (save : Bool)
  /-- Request an LED pattern; `none` is the code NONE, for which the spec states no result (notes/assumptions/17). -/
  | ledreq (code : Option LedPattern)
  /-- Transmit a message body directly. -/
  | txemit (body : Packet)
  /-- Head-unit button. -/
  | cycle (pkt : Packet)
  /-- Gear sensor. -/
  | gear (pkt : Packet)
  /-- Remote fob. -/
  | fob (pkt : Packet)
  /-- CDC mode entry. -/
  | cdcEnter (pkt : Packet)
  /-- CDC mode exit, button release. -/
  | cdcExitBtn (pkt : Packet)
  /-- CDC mode exit, main menu screen. -/
  | cdcExitMenu (pkt : Packet)
deriving DecidableEq, Repr

end Sys2Proof
end

