-- ==== Sys2Proof/Machine/State.lean ====
section
/-! DEFINITION. The state of pibus CORE (10_state.md R20 to R37), what it emits (R39), how a step can stop, and reset (R45). -/

namespace Sys2Proof.Machine

open Sys2Proof

/-- RXC state (10_state.md R21 to R24). A byte of `acc` at or beyond `cursor` is never read by any rule. -/
structure Rxc where
  /-- `ACC[0 .. ACC_CAPACITY-1]` (R21). -/
  acc : List Byte
  /-- Bytes accumulated; the index the next byte is written to (R22). -/
  cursor : Nat
  /-- DTICKs left before a partial packet is discarded (R23). -/
  rxTimeout : Nat
deriving DecidableEq, Repr

/-- DEV state (10_state.md R25 to R34). -/
structure Dev where
  /-- The source that drives the video lines now (R25). -/
  videoSource : VideoSource
  /-- The selection a non-reverse gear packet restores (R26). -/
  savedSource : VideoSource
  /-- The LED pattern asked for and not yet transmitted; `none` is NONE (R27). -/
  ledReq : Option LedPattern
  /-- Remaining display duration in DTICKs (R28). -/
  ledTimer : Nat
  /-- A clear-all-LEDs message is due (R29). -/
  ledClearPending : Bool
  /-- Seconds since the last dispatched packet, saturating (R30). -/
  idleCounter : Nat
  /-- Prescaler from DTICKs to seconds (R31). -/
  secDiv : Nat
  /-- Remaining relay pulse in DTICKs (R32). -/
  relayTimer : Nat
  /-- The long-press counter is armed (R33). -/
  holdArmed : Bool
  /-- DTICKs until a press counts as long (R33). -/
  holdTimer : Nat
  /-- Heartbeat divider (R34). -/
  hbDiv : Nat
  /-- Heartbeat LED line (R34). -/
  hbLed : Bool
deriving DecidableEq, Repr

/-- A queue entry (10_state.md R36). -/
structure Entry where
  /-- The framed packet, never changed after ENQ. -/
  bytes : Packet
  /-- STICKs remaining before the entry is eligible to be sent or re-sent. -/
  countdown : Nat
  /-- The entry may be sent only when it is the first entry scanned. -/
  sync : Bool
  /-- Opaque group identifier. -/
  tag : Tag
  /-- Transmissions since creation or since the last give-up, saturating at 255. -/
  attempts : Nat
deriving DecidableEq, Repr

/-- TXQ state (10_state.md R36, R37). -/
structure Txq where
  /-- `Q`, the head first. -/
  queue : List Entry
  /-- "Link proven good". -/
  linkGood : Bool
deriving DecidableEq, Repr

/-- Output events (10_state.md R39). -/
inductive OutEvent
  /-- A complete framed packet handed to the transport. -/
  | tx (bytes : Packet)
  /-- The traffic-observer hook (TXQ transmissions only). -/
  | observe (bytes : Packet)
  /-- Flush the transport buffer. -/
  | txFlush
  /-- An ENQ was refused. -/
  | enqReject
  /-- A byte was dropped because the accumulator was full. -/
  | accOverflow
deriving DecidableEq, Repr

/-- What an operation returns to its caller: the result pair of STICK (10_state.md R39) and the values of the functions
CHK, XSIZE, FRAME, VERIFY (30_encoding.md R74). Every other operation returns nothing. -/
inductive Result
  | nothing
  | stick (busyContinue giveup : Bool)
  | byte (b : Byte)
  | size (n : Nat)
  | bytes (b : Packet)
  | bool (b : Bool)
deriving DecidableEq, Repr

/-- The whole state: the three disjoint groups of 10_state.md R20, the output trace (00_scope.md R14), and three fields of the
model's own: the result of the last operation (notes/assumptions/4), the events still to come (notes/assumptions/1) and the
number of free values used (notes/assumptions/17). -/
structure State where
  rxc    : Rxc
  dev    : Dev
  txq    : Txq
  /-- The output trace, oldest first. -/
  out    : List OutEvent
  /-- What the last operation returned; nothing reads it. -/
  result : Result
  /-- The frames the environment still presents, the next one first. -/
  inbox  : List Frame
  /-- How many free values have been used; the next one is the opaque constant at this index. -/
  freeCount : Nat
deriving DecidableEq, Repr

/-- Why a frame is rejected by the decoder: it is ill-formed as an input, so the model refuses it (30_encoding.md R74, R81e). -/
inductive Reject
  /-- An operation frame with no byte. -/
  | emptyFrame
  /-- The first byte is no assigned identifier (30_encoding.md R74: 0x08 to 0x0F, 0x1A to 0x1F; above 0x1F it is no 5-bit value). -/
  | unassignedIdentifier
  /-- The operand bytes are too few or too many for the operation. -/
  | operandCount
  /-- An operand byte is outside the values the operand admits (30_encoding.md R74, R81e, R85). -/
  | operandValue
deriving DecidableEq, Repr

/-- The machine stops with a fault. No rule of the spec stops it: the five exceptional conditions of 60_exceptions.md R200
each have a local effect after which the block goes on, and it never halts (70_reset_and_hazards.md R244). So there is no
fault, and nothing raises one (notes/assumptions/14). -/
inductive Fault
deriving DecidableEq, Repr

/-- The model gives no next state. Both are safe: the model stops where the hardware is given no event. -/
inductive Refusal
  /-- Raised by an arm of `exec` whose operation has no meaning yet; no arm is left so. Safe. -/
  | notModelled (mnemonic : String)
  /-- Raised by `step` on a frame that does not decode: an ill-formed trace (30_encoding.md R74, R81e). Safe. -/
  | undecodable (why : Reject)
deriving DecidableEq, Repr

/-- The state after reset (10_state.md R45). `acc`: the spec gives no value; zeros are the model's (notes/assumptions/6). -/
def State.reset : State where
  rxc := { acc := List.replicate accCapacity 0, cursor := 0, rxTimeout := 0 }
  dev :=
    { videoSource := .bus, savedSource := .bus, ledReq := none, ledTimer := 0, ledClearPending := false
      idleCounter := 0, secDiv := 0, relayTimer := 0, holdArmed := false, holdTimer := 0, hbDiv := 0, hbLed := false }
  txq := { queue := [], linkGood := false }
  out := []
  result := .nothing
  inbox := []
  freeCount := 0

end Sys2Proof.Machine
end

