-- ==== Sys2Proof/Config.lean ====
section
/-! DEFINITION. The parameters of pibus CORE (00_scope.md R5 to R9) and their values for this hardware. An OPEN parameter is
an opaque constant: no proof can see its value (notes/assumptions/7). -/

namespace Sys2Proof

open Sys2Proof.Machine

/-- A pattern: `size`, and `match` and `mask` over offsets 0 to `size - 2` (30_encoding.md R76). -/
structure Pattern where
  size : Nat
  /-- The bytes the spec calls `match`. -/
  want : List Byte
  mask : List Byte
deriving DecidableEq, Repr

/-- Size at least 5, match and mask of length `size - 1` (30_encoding.md R76). -/
def Pattern.wf (p : Pattern) : Prop :=
  5 ≤ p.size ∧ p.want.length = p.size - 1 ∧ p.mask.length = p.size - 1

/-- The levels of the three video lines (10_state.md R35, R39). -/
structure VideoLines where
  relayA  : Bool
  relayB  : Bool
  trigger : Bool
deriving DecidableEq, Repr

/-- All parameters of 00_scope.md R5 to R9, but for TAG_WIDTH, which is the type `Tag`. -/
structure Params where
  -- R5
  hasDev : Bool
  hasTxq : Bool
  -- R6
  accCapacity      : Nat
  rxTimeoutTicks   : Nat
  rxVerifyChecksum : Bool
  minCompleteSize  : Nat
  -- R7
  ticksPerSecond  : Nat
  idleThreshold   : Nat
  ledDisplayTicks : Nat
  relayPulseTicks : Nat
  holdTicks       : Nat
  hbHalfFast      : Nat
  hbHalfSlow      : Nat
  videoLines      : VideoSource → VideoLines
  -- R8
  initialDelay  : Nat
  resendWindow  : Nat
  retryLimit    : Nat
  maxPacketSize : Nat
  queueCapacity : Nat
  -- R9
  patCycle       : Pattern
  patGear        : Pattern
  patFob         : Pattern
  fobIdx         : Nat
  fobMask        : Byte
  fobVal         : Byte
  patCdcEnter    : Pattern
  patCdcExitBtn  : Pattern
  patCdcExitMenu : Pattern
  /-- An extra reaction may write DEV state only (42_reactions.md R141). -/
  extraReactions : List (Pattern × (Packet → Dev → Dev))
  ledBody        : LedMessage → Packet

/-- What the spec says of the parameters, given or OPEN (00_scope.md R6 to R9, 30_encoding.md R79, R80). -/
structure Params.wf (c : Params) : Prop where
  acc_capacity      : 5 ≤ c.accCapacity
  rx_timeout        : 1 ≤ c.rxTimeoutTicks
  ticks_per_second  : 1 ≤ c.ticksPerSecond
  idle_threshold    : 1 ≤ c.idleThreshold
  led_display       : 1 ≤ c.ledDisplayTicks
  relay_pulse       : 1 ≤ c.relayPulseTicks
  hold_ticks        : 1 ≤ c.holdTicks
  hb_fast           : 1 ≤ c.hbHalfFast
  hb_slow           : 1 ≤ c.hbHalfSlow
  video_injective   : Function.Injective c.videoLines
  max_packet        : 1 ≤ c.maxPacketSize
  queue_capacity    : 1 ≤ c.queueCapacity
  cycle             : c.patCycle.wf
  gear              : c.patGear.wf
  gear_size         : 6 ≤ c.patGear.size
  gear_mask         : c.patGear.mask.getD 4 0 &&& 0xF0#8 = 0
  fob               : c.patFob.wf
  fob_idx           : c.fobIdx < c.patFob.size - 1
  fob_val           : c.fobVal &&& ~~~ c.fobMask = 0
  fob_mask          : c.patFob.mask.getD c.fobIdx 0 &&& c.fobMask = 0
  cdc_enter         : c.patCdcEnter.wf
  cdc_enter_size    : c.patCdcEnter.size = 20
  cdc_exit_btn      : c.patCdcExitBtn.wf
  cdc_exit_menu     : c.patCdcExitMenu.wf
  led_body_size     : ∀ m, 3 ≤ (c.ledBody m).length ∧ (c.ledBody m).length ≤ c.maxPacketSize - 1
  led_body_length   : ∀ m, ((c.ledBody m).getD 1 0).toNat = (c.ledBody m).length - 1

namespace Config

/-! The OPEN parameters: raw material with no body, from which the definitions below take every value the spec admits and no
other (notes/assumptions/7). -/

opaque ledDisplayTicks : ℕ+
opaque relayPulseTicks : ℕ+
opaque holdTicks : ℕ+
opaque hbHalfFast : ℕ+
opaque hbHalfSlow : ℕ+
opaque queueCapacity : ℕ+
/-- VIDEO_LINES is some injective function (R7): a permutation of the eight line triples, read at three of them. -/
opaque videoPermutation : Equiv.Perm (Bool × Bool × Bool)
opaque gearCells : List (Byte × Byte)
opaque fobCells : List (Byte × Byte)
opaque fobIndex : Nat
opaque fobMask : Byte
opaque fobBits : Byte
opaque cdcEnterCells : List (Byte × Byte)
opaque cdcExitBtnCells : List (Byte × Byte)
opaque cdcExitMenuCells : List (Byte × Byte)
/-- Source byte, destination byte and payload of each LED message. -/
opaque ledFields : LedMessage → Byte × Byte × List Byte

/-! The free values: results the spec does not state, each applied to the counter `State.freeCount` (notes/assumptions/17). -/

/-- FRAME of no byte (40_framing.md R102 takes at least one). -/
opaque freeFrame : Nat → Packet
/-- VERIFY of no byte (40_framing.md R103 takes at least one). -/
opaque freeVerify : Nat → Bool
/-- `led_req` after LEDREQ with the code NONE (42_reactions.md R140 takes 1 to 4). -/
opaque freeLedReq : Nat → Option LedPattern

/-- The pattern whose (match, mask) bytes are `cells`. -/
def patternOf (cells : List (Byte × Byte)) : Pattern where
  size := cells.length + 1
  want := cells.map Prod.fst
  mask := cells.map Prod.snd

/-- `cells`, followed by don't-care bytes up to `n` of them. -/
def padCells (n : Nat) (cells : List (Byte × Byte)) : List (Byte × Byte) :=
  cells ++ List.replicate (n - cells.length) (0, 0)

/-- PAT_GEAR: size at least 6, the high nibble of byte 4 not compared (R9). -/
def patGear : Pattern :=
  let p := patternOf (padCells 5 gearCells)
  { p with mask := p.mask.modify 4 (· &&& 0x0F#8) }

/-- PAT_FOB before the button bits are taken out of its comparison. -/
def patFobRaw : Pattern := patternOf (padCells 4 fobCells)

/-- FOB_IDX: below `PAT_FOB.size - 1` (R9). -/
def fobIdx : Nat := fobIndex % (patFobRaw.size - 1)

/-- PAT_FOB: the button bits are not compared (30_encoding.md R79). -/
def patFob : Pattern := { patFobRaw with mask := patFobRaw.mask.modify fobIdx (· &&& ~~~ fobMask) }

/-- VIDEO_LINES (R7). -/
def videoLines (v : VideoSource) : VideoLines :=
  let key : Bool × Bool × Bool := match v with
    | .bus => (false, false, false)
    | .companion => (true, false, false)
    | .camera => (false, true, false)
  let lines := videoPermutation key
  { relayA := lines.1, relayB := lines.2.1, trigger := lines.2.2 }

/-- LED_BODY: 3 to `MAX_PACKET_SIZE - 1` bytes, byte 1 one less than the size (R9, 30_encoding.md R80). -/
def ledBody (m : LedMessage) : Packet :=
  let payload := (ledFields m).2.2.take 28
  [(ledFields m).1, BitVec.ofNat 8 (payload.length + 2), (ledFields m).2.1] ++ payload

/-- PAT_CYCLE (00_scope.md R9, 30_encoding.md R77). -/
def patCycle : Pattern where
  size := 6
  want := [0xF0, 0x04, 0xFF, 0x48, 0x08]
  mask := [0xFF, 0xFF, 0xFF, 0xFF, 0xFF]

/-- The parameters of this hardware (00_scope.md R5 to R9). -/
def pibus : Params where
  hasDev := true
  hasTxq := true
  accCapacity := Sys2Proof.accCapacity
  rxTimeoutTicks := 1
  rxVerifyChecksum := false
  minCompleteSize := 5
  ticksPerSecond := 150
  idleThreshold := 360
  ledDisplayTicks := ledDisplayTicks
  relayPulseTicks := relayPulseTicks
  holdTicks := holdTicks
  hbHalfFast := hbHalfFast
  hbHalfSlow := hbHalfSlow
  videoLines := videoLines
  initialDelay := 1
  resendWindow := 10
  retryLimit := 3
  maxPacketSize := 32
  queueCapacity := queueCapacity
  patCycle := patCycle
  patGear := patGear
  patFob := patFob
  fobIdx := fobIdx
  fobMask := fobMask
  fobVal := fobBits &&& fobMask
  patCdcEnter := patternOf ((padCells 19 cdcEnterCells).take 19)
  patCdcExitBtn := patternOf (padCells 4 cdcExitBtnCells)
  patCdcExitMenu := patternOf (padCells 4 cdcExitMenuCells)
  extraReactions := []
  ledBody := ledBody

end Config

end Sys2Proof
end

