-- ==== Sys2Proof/Machine/Operands.lean ====
section
/-! DEFINITION. What is read out of a packet: one byte, the pattern comparison, the gear nibble, the fob button, and which row
of the reaction table a packet selects (30_encoding.md R71, R76 to R79). -/

namespace Sys2Proof.Machine

open Sys2Proof

/-- `pkt[i]`. No rule reads an index at or beyond the size (00_scope.md R12); 0 only makes it total (notes/assumptions/9). -/
def packetByte (pkt : Packet) (i : Nat) : Byte := pkt.getD i 0

/-- `matches(pat, pkt)` (30_encoding.md R76): equal sizes, and equal masked bytes at every offset but the checksum's. -/
def patMatches (pat : Pattern) (pkt : Packet) : Bool :=
  pkt.length == pat.size &&
    (List.range (pat.size - 1)).all fun i =>
      (packetByte pkt i &&& packetByte pat.mask i) == (packetByte pat.want i &&& packetByte pat.mask i)

/-- `gear = pkt[4] >> 4`, 4 bits (30_encoding.md R78). -/
def gearNibble (pkt : Packet) : BitVec 4 := (packetByte pkt 4).extractLsb' 4 4

/-- `fob_pressed(pkt)` (30_encoding.md R79). -/
def fobPressed (c : Params) (pkt : Packet) : Bool :=
  (packetByte pkt c.fobIdx &&& c.fobMask) == c.fobVal

/-- The six known rows in priority order (30_encoding.md R77). -/
def reactionTable (c : Params) : List (Pattern × Reaction) :=
  [ (c.patCycle, .cycle), (c.patGear, .gear), (c.patFob, .fob), (c.patCdcEnter, .cdcEnter)
  , (c.patCdcExitBtn, .cdcExitBtn), (c.patCdcExitMenu, .cdcExitMenu) ]

/-- The first known row whose pattern matches; it reads the packet and the constant table only (42_reactions.md R130, R131). -/
def selectReaction (c : Params) (pkt : Packet) : Option Reaction :=
  ((reactionTable c).find? fun row => patMatches row.1 pkt).map Prod.snd

end Sys2Proof.Machine
end

