-- ==== Sys2Proof/WellFormed.lean ====
section
/-! DEFINITION. Which operands an operation can carry (notes/assumptions/11, 12). Most operand types admit no ill-formed value. -/

namespace Sys2Proof

open Sys2Proof.Machine

/-- A reaction carries a packet that selects it (30_encoding.md R77). Every other operation runs on every value of its operand
types, byte sequences of every size among them (notes/assumptions/11, 17). -/
def Instr.wf (c : Params) : Instr → Bool
  | .rxbyte _ _ => true
  | .dtick _ => true
  | .stick _ _ _ _ => true
  | .enq _ _ _ _ => true
  | .rmmatch _ => true
  | .rmtag _ => true
  | .discard => true
  | .reset => true
  | .chk _ => true
  | .xsize _ => true
  | .frame _ => true
  | .verify _ => true
  | .accreset => true
  | .complete => true
  | .dispatch _ => true
  | .setsrc _ _ => true
  | .ledreq _ => true
  | .txemit _ => true
  | .cycle pkt => selectReaction c pkt == some .cycle
  | .gear pkt => selectReaction c pkt == some .gear
  | .fob pkt => selectReaction c pkt == some .fob
  | .cdcEnter pkt => selectReaction c pkt == some .cdcEnter
  | .cdcExitBtn pkt => selectReaction c pkt == some .cdcExitBtn
  | .cdcExitMenu pkt => selectReaction c pkt == some .cdcExitMenu

end Sys2Proof
end

