-- ==== Sys2Proof/Decode.lean ====
section
/-! DEFINITION. The decoder, total on every frame and rejecting by name, and the encoder, both from 30_encoding.md R74 and R77;
and the host's numbering of table words. The operand layout is the model's (notes/assumptions/2, 12, 13). -/

namespace Sys2Proof

open Sys2Proof.Machine

/-- The 5-bit identifier `op` (30_encoding.md R74). -/
def opcodeId : Opcode → Nat
  | .rxbyte => 0x00
  | .dtick => 0x01
  | .stick => 0x02
  | .enq => 0x03
  | .rmmatch => 0x04
  | .rmtag => 0x05
  | .discard => 0x06
  | .reset => 0x07
  | .chk => 0x10
  | .xsize => 0x11
  | .frame => 0x12
  | .verify => 0x13
  | .accreset => 0x14
  | .complete => 0x15
  | .dispatch => 0x16
  | .setsrc => 0x17
  | .ledreq => 0x18
  | .txemit => 0x19

/-- Every operation that has an identifier, in the order of the table. -/
def opcodes : List Opcode :=
  [ .rxbyte, .dtick, .stick, .enq, .rmmatch, .rmtag, .discard, .reset, .chk, .xsize, .frame, .verify, .accreset
  , .complete, .dispatch, .setsrc, .ledreq, .txemit ]

/-- The operation an identifier names; `none` for the unassigned ones (30_encoding.md R74). -/
def opcodeOf (n : Nat) : Option Opcode := opcodes.find? fun o => opcodeId o == n

/-- A 1-bit operand: 0 or 1. -/
def readBit (b : Byte) : Option Bool :=
  if b = 0 then some false else if b = 1 then some true else none

/-- The three fault bits (30_encoding.md R75). -/
def readFault (b : Byte) : Option (BitVec 3) :=
  if b.toNat < 8 then some (b.setWidth 3) else none

/-- BUS = 0, COMPANION = 1, CAMERA = 2 (30_encoding.md R85). -/
def VideoSource.code : VideoSource → Nat
  | .bus => 0
  | .companion => 1
  | .camera => 2

/-- BUS = 1, COMPANION = 2, CAMERA = 3, BLINK_ALL = 4 (30_encoding.md R80, R85). -/
def LedPattern.code : LedPattern → Nat
  | .bus => 1
  | .companion => 2
  | .camera => 3
  | .blinkAll => 4

/-- Code of an LED message: the code of its pattern, or CLEAR = 5 (30_encoding.md R80, R85). -/
def LedMessage.code : LedMessage → Nat
  | .pattern p => p.code
  | .clear => 5

/-- A video source code (30_encoding.md R85). -/
def readSource (b : Byte) : Option VideoSource :=
  [VideoSource.bus, .companion, .camera].find? fun v => v.code == b.toNat

/-- Code of a value of `led_req`; NONE = 0 (30_encoding.md R85). -/
def ledReqCode : Option LedPattern → Nat
  | none => 0
  | some p => p.code

/-- A code of `led_req`, 0 to 4; 5 to 7 are not representable (30_encoding.md R81e, R85). -/
def readLedReq (b : Byte) : Option (Option LedPattern) :=
  [none, some LedPattern.bus, some .companion, some .camera, some .blinkAll].find? fun r => ledReqCode r == b.toNat

/-- The operands of an operation, from the bytes after its identifier: scalars one byte each, in the order of R74, then the
byte sequence, which is the rest of the frame (notes/assumptions/2). -/
def readOperands (op : Opcode) (args : List Byte) : Except Reject Instr :=
  match op with
  | .rxbyte => match args with
    | [d, f] => match readFault f with
      | some fault => .ok (.rxbyte d fault)
      | none => .error .operandValue
    | _ => .error .operandCount
  | .dtick => match args with
    | [b] => match readBit b with
      | some lineIdle => .ok (.dtick lineIdle)
      | none => .error .operandValue
    | _ => .error .operandCount
  | .stick => match args with
    | [b0, b1, b2, b3] => match readBit b0, readBit b1, readBit b2, readBit b3 with
      | some ct, some cts, some li, some rxe => .ok (.stick ct cts li rxe)
      | _, _, _, _ => .error .operandValue
    | _ => .error .operandCount
  | .enq => match args with
    | b0 :: t :: b1 :: bytes => match readBit b0, readBit b1 with
      | some sync, some prepend => .ok (.enq bytes sync t prepend)
      | _, _ => .error .operandValue
    | _ => .error .operandCount
  | .rmmatch => .ok (.rmmatch args)
  | .rmtag => match args with
    | [t] => .ok (.rmtag t)
    | _ => .error .operandCount
  | .discard => match args with
    | [] => .ok .discard
    | _ => .error .operandCount
  | .reset => match args with
    | [] => .ok .reset
    | _ => .error .operandCount
  | .chk => .ok (.chk args)
  | .xsize => match args with
    | [len] => .ok (.xsize len)
    | _ => .error .operandCount
  | .frame => .ok (.frame args)
  | .verify => .ok (.verify args)
  | .accreset => match args with
    | [] => .ok .accreset
    | _ => .error .operandCount
  | .complete => match args with
    | [] => .ok .complete
    | _ => .error .operandCount
  | .dispatch => .ok (.dispatch args)
  | .setsrc => match args with
    | [v, b] => match readSource v, readBit b with
      | some source, some save => .ok (.setsrc source save)
      | _, _ => .error .operandValue
    | _ => .error .operandCount
  | .ledreq => match args with
    | [b] => match readLedReq b with
      | some code => .ok (.ledreq code)
      | none => .error .operandValue
    | _ => .error .operandCount
  | .txemit => .ok (.txemit args)

/-- The operation of an operation frame: identifier, then operands. -/
def decodeOperation : List Byte → Except Reject Instr
  | [] => .error .emptyFrame
  | op :: args => match opcodeOf op.toNat with
    | none => .error .unassignedIdentifier
    | some o => readOperands o args

/-- The reaction a packet selects (30_encoding.md R77). -/
def reactionInstr (pkt : Packet) : Reaction → Instr
  | .cycle => .cycle pkt
  | .gear => .gear pkt
  | .fob => .fob pkt
  | .cdcEnter => .cdcEnter pkt
  | .cdcExitBtn => .cdcExitBtn pkt
  | .cdcExitMenu => .cdcExitMenu pkt

/-- The reaction of a packet frame; a packet that selects no row is only dispatched (42_reactions.md R138,
notes/assumptions/12). -/
def decodePacket (c : Params) (pkt : Packet) : Instr :=
  match selectReaction c pkt with
  | some r => reactionInstr pkt r
  | none => .dispatch pkt

/-- The decoder. -/
def decode (c : Params) (f : Frame) : Except Reject Instr :=
  match f.kind with
  | .operation => decodeOperation f.bytes
  | .packet => .ok (decodePacket c f.bytes)

/-- A 1-bit operand as a byte. -/
def bitByte (b : Bool) : Byte := if b then 1 else 0

/-- A small code as a byte. -/
def codeByte (n : Nat) : Byte := BitVec.ofNat 8 n

/-- An operation frame. -/
def opFrame (o : Opcode) (args : List Byte) : Frame := { kind := .operation, bytes := codeByte (opcodeId o) :: args }

/-- A packet frame. -/
def pktFrame (pkt : Packet) : Frame := { kind := .packet, bytes := pkt }

/-- The encoder: the frame of an operation (30_encoding.md R74) or the packet of a reaction (R77). -/
def encode : Instr → Frame
  | .rxbyte d f => opFrame .rxbyte [d, f.setWidth 8]
  | .dtick li => opFrame .dtick [bitByte li]
  | .stick ct cts li rxe => opFrame .stick [bitByte ct, bitByte cts, bitByte li, bitByte rxe]
  | .enq bytes sync tag prepend => opFrame .enq (bitByte sync :: tag :: bitByte prepend :: bytes)
  | .rmmatch bytes => opFrame .rmmatch bytes
  | .rmtag tag => opFrame .rmtag [tag]
  | .discard => opFrame .discard []
  | .reset => opFrame .reset []
  | .chk bytes => opFrame .chk bytes
  | .xsize len => opFrame .xsize [len]
  | .frame bytes => opFrame .frame bytes
  | .verify bytes => opFrame .verify bytes
  | .accreset => opFrame .accreset []
  | .complete => opFrame .complete []
  | .dispatch pkt => opFrame .dispatch pkt
  | .setsrc v save => opFrame .setsrc [codeByte v.code, bitByte save]
  | .ledreq r => opFrame .ledreq [codeByte (ledReqCode r)]
  | .txemit body => opFrame .txemit body
  | .cycle pkt => pktFrame pkt
  | .gear pkt => pktFrame pkt
  | .fob pkt => pktFrame pkt
  | .cdcEnter pkt => pktFrame pkt
  | .cdcExitBtn pkt => pktFrame pkt
  | .cdcExitMenu pkt => pktFrame pkt

/-- Operand bytes in the shortest form of an operation (notes/assumptions/13). -/
def leastOperands : Opcode → Nat
  | .rxbyte => 2
  | .dtick => 1
  | .stick => 4
  | .enq => 3
  | .rmmatch => 0
  | .rmtag => 1
  | .discard => 0
  | .reset => 0
  | .chk => 0
  | .xsize => 1
  | .frame => 1
  | .verify => 1
  | .accreset => 0
  | .complete => 0
  | .dispatch => 5
  | .setsrc => 2
  | .ledreq => 1
  | .txemit => 3

/-- Byte `i` of a table word: bit 0 of the word is the least significant bit of byte 0. -/
def wordByte (w i : Nat) : Byte := BitVec.ofNat 8 (w / 2 ^ (8 * i))

/-- The frame a table word stands for: a row of at least 4 bytes is a row of the reaction table, its packet as long as its
length byte says (40_framing.md R101); a shorter row is an identifier, with the least operands the operation takes. Every bit
above `nbits` is 0 (notes/assumptions/13). -/
def frameOfWord (nbits w : Nat) : Frame :=
  let v := w % 2 ^ nbits
  if 32 ≤ nbits then pktFrame ((List.range ((wordByte v 1).toNat + 2)).map (wordByte v))
  else
    let operands := match opcodeOf (wordByte v 0).toNat with
      | some o => leastOperands o
      | none => 0
    { kind := .operation, bytes := (List.range (operands + 1)).map (wordByte v) }

/-- The instruction this decoder reads from a table word. -/
def decodeTableWord (nbits w : Nat) : Option Instr :=
  match decode Config.pibus (frameOfWord nbits w) with
  | .ok i => some i
  | .error _ => none

end Sys2Proof
end

