-- ==== Sys2Proof/Machine/Flags.lean ====
section
/-! DEFINITION. The derived bits and levels: functions of the state with no storage of their own (10_state.md R24, R35, R40),
and the transmit permission of a DTICK (43_tick.md R151). -/

namespace Sys2Proof.Machine

open Sys2Proof

/-- The two receive states (10_state.md R24, 30_encoding.md R85). -/
inductive RxcState
  | idle
  | accumulating
deriving DecidableEq, Repr

/-- IDLE iff `cursor = 0` (10_state.md R24). -/
def rxcState (r : Rxc) : RxcState := if r.cursor = 0 then .idle else .accumulating

/-- `power_enable = (idle_counter >= IDLE_THRESHOLD)` (10_state.md R35). -/
def powerEnable (c : Params) (d : Dev) : Bool := decide (c.idleThreshold ≤ d.idleCounter)

/-- `aux_relay = (relay_timer > 0)` (10_state.md R35). -/
def auxRelay (d : Dev) : Bool := decide (0 < d.relayTimer)

/-- `(video_relay_a, video_relay_b, video_trigger) = VIDEO_LINES(video_source)` (10_state.md R35). -/
def videoLevels (c : Params) (d : Dev) : VideoLines := c.videoLines d.videoSource

/-- `tx_ok`: the line is idle and no packet is mid-accumulation (43_tick.md R151). -/
def txPermitted (lineIdle : Bool) (r : Rxc) : Bool := lineIdle && r.cursor == 0

/-- All level outputs together (10_state.md R39). -/
structure Levels where
  video       : VideoLines
  hbLed       : Bool
  auxRelay    : Bool
  powerEnable : Bool
deriving DecidableEq, Repr

/-- The level outputs of a state (10_state.md R35, R39). -/
def levels (c : Params) (s : State) : Levels where
  video := videoLevels c s.dev
  hbLed := s.dev.hbLed
  auxRelay := auxRelay s.dev
  powerEnable := powerEnable c s.dev

end Sys2Proof.Machine
end

