-- ==== Sys2Proof/Machine/Ops.lean ====
section
/-! DEFINITION. The named operations over the state that the meanings share: writing one group, emitting, answering, the
accumulator's accesses, the queue's accesses (20_memory.md R50), and raising an exceptional condition (60_exceptions.md R200). -/

namespace Sys2Proof.Machine

open Sys2Proof

/-- `dec0(x)`: `x - 1`, floor at zero (00_scope.md R12). -/
def dec0 (n : Nat) : Nat := n - 1

/-- Write the RXC group. -/
def State.setRxc (s : State) (r : Rxc) : State := { s with rxc := r }

/-- Write the DEV group. -/
def State.setDev (s : State) (d : Dev) : State := { s with dev := d }

/-- Write the TXQ group. -/
def State.setTxq (s : State) (q : Txq) : State := { s with txq := q }

/-- Append output events, in order, to the output trace (00_scope.md R12 `emit`). -/
def State.emit (s : State) (es : List OutEvent) : State := { s with out := s.out ++ es }

/-- End the operation with what it returns to its caller (notes/assumptions/4). -/
def State.answer (s : State) (r : Result) : State := { s with result := r }

/-- One more free value has been used (notes/assumptions/17). -/
def State.useFree (s : State) : State := { s with freeCount := s.freeCount + 1 }

/-- The next frame the environment presents, and the state in which it is performed (00_scope.md R14, 20_memory.md R58). -/
def takeFrame (s : State) : Option (Frame × State) :=
  match s.inbox with
  | [] => none
  | f :: rest => some (f, { s with inbox := rest })

/-- Present a frame as the very next event. -/
def State.present (s : State) (f : Frame) : State := { s with inbox := f :: s.inbox }

/-- `MemRead(i, n)`: `ACC[i..i+n-1]` (00_scope.md R12). -/
def memRead (r : Rxc) (i n : Nat) : List Byte := (r.acc.drop i).take n

/-- `MemWrite(i, 1, v)`: `ACC[i] <- v` (00_scope.md R12). -/
def memWrite (r : Rxc) (i : Nat) (v : Byte) : Rxc := { r with acc := r.acc.set i v }

/-- `ACC[0 .. cursor-1]`: what has been accumulated (20_memory.md R50a). -/
def accumulated (r : Rxc) : Packet := memRead r 0 r.cursor

/-- A fault-free byte is written at `ACC[cursor]` and `cursor` grows by 1 (41_receive.md R113). -/
def storeByte (r : Rxc) (data : Byte) : Rxc := { memWrite r r.cursor data with cursor := r.cursor + 1 }

/-- ACCRESET: the bytes are not cleared (41_receive.md R117). -/
def accReset (r : Rxc) : Rxc := { r with cursor := 0, rxTimeout := 0 }

/-- One STICK passes over an entry (44_txqueue.md R173). -/
def entryTick (e : Entry) : Entry := { e with countdown := dec0 e.countdown }

/-- An entry after its transmission (44_txqueue.md R179). -/
def entrySent (c : Params) (e : Entry) : Entry :=
  { e with attempts := min (e.attempts + 1) 255, countdown := c.resendWindow }

/-- RMMATCH on the queue: remove the first entry with exactly these bytes and latch `link_good`; without the TXQ unit,
nothing (44_txqueue.md R182, 00_scope.md R4). -/
def removeMatching (c : Params) (b : Packet) (q : Txq) : Txq :=
  if c.hasTxq && q.queue.any (fun e => e.bytes == b) then
    { queue := q.queue.eraseP fun e => e.bytes == b, linkGood := true }
  else q

/-- The exceptional conditions X1 to X5 (60_exceptions.md R200). -/
inductive Condition
  /-- X1. -/
  | transportFault
  /-- X2. -/
  | accumulatorFull
  /-- X3, of the queue entry at the index. -/
  | giveUp (index : Nat)
  /-- X4. -/
  | enqueueRefused
  /-- X5. -/
  | checksumMismatch
deriving DecidableEq, Repr

/-- `raise X`: the effect 60_exceptions.md R200 lists for the condition. Nothing is saved and control goes nowhere (R210);
there is no return (R211). The result bit of X3 is STICK's answer. -/
def State.raise (s : State) : Condition → State
  | .transportFault => s
  | .accumulatorFull => s.emit [.accOverflow]
  | .giveUp i => s.setTxq { s.txq with queue := s.txq.queue.modify i fun e => { e with attempts := 0 } }
  | .enqueueRefused => s.emit [.enqReject]
  | .checksumMismatch => s.setRxc (accReset s.rxc)

end Sys2Proof.Machine
end

