-- ==== Sys2Proof/Machine/BlockReset.lean ====
section
/-! DEFINITION. RESET (70_reset_and_hazards.md R230). -/

namespace Sys2Proof.Machine

open Sys2Proof

/-- RESET: every state element takes its value of 10_state.md R45 and the output trace starts empty; the events the environment
has still to present are not the block's and stay (notes/assumptions/5), and no free value is used twice
(notes/assumptions/17). -/
def execReset (s : State) : Host.Outcome State Fault Refusal :=
  .next { State.reset with inbox := s.inbox, freeCount := s.freeCount }

end Sys2Proof.Machine
end

