-- ==== Sys2Proof/Machine/Framing.lean ====
section
/-! DEFINITION. FRM: the framing and checksum functions and the meanings of CHK, XSIZE, FRAME, VERIFY (40_framing.md). They
write no state; their value is the answer. -/

namespace Sys2Proof.Machine

open Sys2Proof

/-- CHK: the XOR of all bytes, `00` of none (40_framing.md R100). -/
def checksum (b : Packet) : Byte := b.foldr (· ^^^ ·) 0

/-- XSIZE: `len + 2` in natural numbers (40_framing.md R101). -/
def declaredSize (len : Byte) : Nat := len.toNat + 2

/-- FRAME: the last byte is replaced by the checksum of the bytes before it (40_framing.md R102). -/
def framed (b : Packet) : Packet := b.dropLast ++ [checksum b.dropLast]

/-- VERIFY: the last byte is the checksum of the bytes before it (40_framing.md R103). -/
def verified (p : Packet) : Bool := p.getLast? == some (checksum p.dropLast)

/-- CHK (40_framing.md R100). -/
def execChk (b : Packet) (s : State) : Host.Outcome State Fault Refusal := .next (s.answer (.byte (checksum b)))

/-- XSIZE (40_framing.md R101). -/
def execXsize (len : Byte) (s : State) : Host.Outcome State Fault Refusal := .next (s.answer (.size (declaredSize len)))

/-- FRAME (40_framing.md R102). Of no byte, where the spec states no result, the answer is a free value. -/
def execFrame (b : Packet) (s : State) : Host.Outcome State Fault Refusal :=
  match b with
  | [] => .next (s.useFree.answer (.bytes (Config.freeFrame s.freeCount)))
  | x :: rest => .next (s.answer (.bytes (framed (x :: rest))))

/-- VERIFY (40_framing.md R103). Of no byte, where the spec states no result, the answer is a free value. -/
def execVerify (p : Packet) (s : State) : Host.Outcome State Fault Refusal :=
  match p with
  | [] => .next (s.useFree.answer (.bool (Config.freeVerify s.freeCount)))
  | x :: rest => .next (s.answer (.bool (verified (x :: rest))))

end Sys2Proof.Machine
end

