-- ==== Sys2Proof/Machine/Reactions.lean ====
section
/-! DEFINITION. DEV: dispatch, the six reactions and their helpers (42_reactions.md). They write DEV state only. -/

namespace Sys2Proof.Machine

open Sys2Proof

/-- SETSRC (42_reactions.md R139). -/
def setSource (v : VideoSource) (save : Bool) (d : Dev) : Dev :=
  { d with videoSource := v, savedSource := if save then v else d.savedSource }

/-- LEDREQ, whatever `led_req` is loaded with (42_reactions.md R140). -/
def loadLed (c : Params) (r : Option LedPattern) (d : Dev) : Dev :=
  { d with ledReq := r, ledTimer := c.ledDisplayTicks, ledClearPending := false }

/-- LEDREQ of a pattern (42_reactions.md R140). -/
def requestLed (c : Params) (p : LedPattern) (d : Dev) : Dev := loadLed c (some p) d

/-- `next`: BUS, COMPANION, CAMERA, BUS (42_reactions.md R132). -/
def nextSource : VideoSource → VideoSource
  | .bus => .companion
  | .companion => .camera
  | .camera => .bus

/-- `ledcode`: the pattern of a source (42_reactions.md R132). -/
def sourcePattern : VideoSource → LedPattern
  | .bus => .bus
  | .companion => .companion
  | .camera => .camera

/-- CYCLE (42_reactions.md R132). -/
def reactCycle (c : Params) (d : Dev) : Dev :=
  let v := nextSource d.videoSource
  requestLed c (sourcePattern v) (setSource v true d)

/-- GEAR (42_reactions.md R133). -/
def reactGear (pkt : Packet) (d : Dev) : Dev :=
  if gearNibble pkt = 1 then setSource .camera false d else setSource d.savedSource false d

/-- FOB (42_reactions.md R134). -/
def reactFob (c : Params) (pkt : Packet) (d : Dev) : Dev :=
  if fobPressed c pkt then
    if d.holdArmed then d else { d with holdArmed := true, holdTimer := c.holdTicks }
  else
    let d := if d.holdArmed && d.holdTimer == 0 then requestLed c .blinkAll { d with relayTimer := c.relayPulseTicks } else d
    { d with holdArmed := false, holdTimer := 0 }

/-- CDC_ENTER (42_reactions.md R135). -/
def reactCdcEnter (d : Dev) : Dev := setSource .companion true d

/-- CDC_EXIT_BTN (42_reactions.md R136). -/
def reactCdcExitBtn (d : Dev) : Dev := setSource .bus true d

/-- CDC_EXIT_MENU (42_reactions.md R137). -/
def reactCdcExitMenu (d : Dev) : Dev := setSource .bus true d

/-- The reaction of a table row. -/
def react (c : Params) (pkt : Packet) (d : Dev) : Reaction → Dev
  | .cycle => reactCycle c d
  | .gear => reactGear pkt d
  | .fob => reactFob c pkt d
  | .cdcEnter => reactCdcEnter d
  | .cdcExitBtn => reactCdcExitBtn d
  | .cdcExitMenu => reactCdcExitMenu d

/-- DISPATCH: the first matching row fires, the six known rows before the extra ones; no match changes nothing
(42_reactions.md R130, R138, R141). Without the DEV unit it does nothing (00_scope.md R4). -/
def dispatchPacket (c : Params) (pkt : Packet) (d : Dev) : Dev :=
  if c.hasDev then
    match selectReaction c pkt with
    | some r => react c pkt d r
    | none => match c.extraReactions.find? fun row => patMatches row.1 pkt with
      | some row => row.2 pkt d
      | none => d
  else d

/-- DISPATCH (42_reactions.md R130). -/
def execDispatch (pkt : Packet) (s : State) : Host.Outcome State Fault Refusal :=
  .next ((s.setDev (dispatchPacket Config.pibus pkt s.dev)).answer .nothing)

/-- SETSRC (42_reactions.md R139). -/
def execSetsrc (v : VideoSource) (save : Bool) (s : State) : Host.Outcome State Fault Refusal :=
  .next ((s.setDev (setSource v save s.dev)).answer .nothing)

/-- LEDREQ (42_reactions.md R140). For the code NONE, where the spec states no result, `led_req` becomes a free value; the
timer is loaded and a pending clear cancelled as for every code. -/
def execLedreq (code : Option LedPattern) (s : State) : Host.Outcome State Fault Refusal :=
  match code with
  | some p => .next ((s.setDev (requestLed Config.pibus p s.dev)).answer .nothing)
  | none => .next ((s.setDev (loadLed Config.pibus (Config.freeLedReq s.freeCount) s.dev)).useFree.answer .nothing)

/-- CYCLE (42_reactions.md R132); the packet is the one that selected it and is not read. -/
def execCycle (_pkt : Packet) (s : State) : Host.Outcome State Fault Refusal :=
  .next ((s.setDev (reactCycle Config.pibus s.dev)).answer .nothing)

/-- GEAR (42_reactions.md R133). -/
def execGear (pkt : Packet) (s : State) : Host.Outcome State Fault Refusal :=
  .next ((s.setDev (reactGear pkt s.dev)).answer .nothing)

/-- FOB (42_reactions.md R134). -/
def execFob (pkt : Packet) (s : State) : Host.Outcome State Fault Refusal :=
  .next ((s.setDev (reactFob Config.pibus pkt s.dev)).answer .nothing)

/-- CDC_ENTER (42_reactions.md R135); the packet is not read. -/
def execCdcEnter (_pkt : Packet) (s : State) : Host.Outcome State Fault Refusal :=
  .next ((s.setDev (reactCdcEnter s.dev)).answer .nothing)

/-- CDC_EXIT_BTN (42_reactions.md R136); the packet is not read. -/
def execCdcExitBtn (_pkt : Packet) (s : State) : Host.Outcome State Fault Refusal :=
  .next ((s.setDev (reactCdcExitBtn s.dev)).answer .nothing)

/-- CDC_EXIT_MENU (42_reactions.md R137); the packet is not read. -/
def execCdcExitMenu (_pkt : Packet) (s : State) : Host.Outcome State Fault Refusal :=
  .next ((s.setDev (reactCdcExitMenu s.dev)).answer .nothing)

end Sys2Proof.Machine
end

