-- ==== Sys2Proof/Machine/Receive.lean ====
section
/-! DEFINITION. RXC: byte arrival, completion, accumulator reset and the receive timeout (41_receive.md). -/

namespace Sys2Proof.Machine

open Sys2Proof

/-- The DEV part of a completion: DISPATCH, then the idle counter and its prescaler are cleared (41_receive.md R115). -/
def completeDev (c : Params) (pkt : Packet) (d : Dev) : Dev :=
  if c.hasDev then { dispatchPacket c pkt d with idleCounter := 0, secDiv := 0 } else d

/-- COMPLETE (41_receive.md R115, R116). -/
def completePacket (c : Params) (s : State) : State :=
  let pkt := accumulated s.rxc
  if c.rxVerifyChecksum && !verified pkt then s.raise .checksumMismatch
  else
    let s := s.setDev (completeDev c pkt s.dev)
    let s := s.setTxq (removeMatching c pkt s.txq)
    s.setRxc (accReset s.rxc)

/-- The completion test, made on the new value of `cursor` (41_receive.md R114). -/
def isComplete (c : Params) (r : Rxc) : Bool :=
  decide (c.minCompleteSize ≤ r.cursor) && declaredSize (packetByte r.acc 1) == r.cursor

/-- RXBYTE (41_receive.md R110 to R114). -/
def receiveByte (c : Params) (data : Byte) (fault : BitVec 3) (s : State) : State :=
  if fault ≠ 0 then s.raise .transportFault
  else if s.rxc.cursor = c.accCapacity then s.raise .accumulatorFull
  else
    let r := storeByte s.rxc data
    if isComplete c r then completePacket c (s.setRxc r)
    else s.setRxc { r with rxTimeout := c.rxTimeoutTicks }

/-- The receive timeout step of a DTICK (41_receive.md R118). -/
def timeoutStep (r : Rxc) : Rxc :=
  let t := dec0 r.rxTimeout
  if t = 0 then accReset r else { r with rxTimeout := t }

/-- RXBYTE (41_receive.md R110). -/
def execRxbyte (data : Byte) (fault : BitVec 3) (s : State) : Host.Outcome State Fault Refusal :=
  .next ((receiveByte Config.pibus data fault s).answer .nothing)

/-- ACCRESET (41_receive.md R117). -/
def execAccreset (s : State) : Host.Outcome State Fault Refusal :=
  .next ((s.setRxc (accReset s.rxc)).answer .nothing)

/-- COMPLETE (41_receive.md R115). -/
def execComplete (s : State) : Host.Outcome State Fault Refusal :=
  .next ((completePacket Config.pibus s).answer .nothing)

end Sys2Proof.Machine
end

