-- ==== Sys2Proof/Machine/Tick.lean ====
section
/-! DEFINITION. DTICK, the device tick and its timers, and TXEMIT (43_tick.md). -/

namespace Sys2Proof.Machine

open Sys2Proof

/-- Step 3, heartbeat, on the power state at entry (43_tick.md R153). -/
def heartbeatStep (c : Params) (power : Bool) (d : Dev) : Dev :=
  let half := if power then c.hbHalfSlow else c.hbHalfFast
  let toggle := decide (half ≤ d.hbDiv + 1)
  { d with hbDiv := if toggle then 0 else d.hbDiv + 1, hbLed := if toggle then !d.hbLed else d.hbLed }

/-- Step 4, idle counter and one-second prescaler (43_tick.md R154). -/
def secondStep (c : Params) (d : Dev) : Dev :=
  if c.ticksPerSecond ≤ d.secDiv + 1 then
    { d with
      secDiv := 0
      idleCounter := if d.idleCounter < c.idleThreshold then d.idleCounter + 1 else d.idleCounter }
  else { d with secDiv := d.secDiv + 1 }

/-- Step 5, relay pulse (43_tick.md R155). -/
def relayStep (d : Dev) : Dev := { d with relayTimer := dec0 d.relayTimer }

/-- The display countdown of step 6, which runs while no request is pending (43_tick.md R156). -/
def ledCountdown (d : Dev) : Dev :=
  if 0 < d.ledTimer then
    { d with ledTimer := d.ledTimer - 1, ledClearPending := d.ledClearPending || d.ledTimer == 1 }
  else d

/-- TXEMIT (43_tick.md R158): one TX of the framed body, and nothing else. -/
def emitMessage (body : Packet) (s : State) : State := s.emit [.tx (framed (body ++ [0]))]

/-- Step 6, LED request, display countdown and clear (43_tick.md R156). -/
def ledStep (c : Params) (txOk : Bool) (s : State) : State :=
  match s.dev.ledReq with
  | some p =>
    if txOk then (emitMessage (c.ledBody (.pattern p)) s).setDev { s.dev with ledReq := none } else s
  | none =>
    let d := ledCountdown s.dev
    if d.ledClearPending && txOk then
      (emitMessage (c.ledBody .clear) s).setDev { d with ledClearPending := false }
    else s.setDev d

/-- Step 7, long-press countdown (43_tick.md R157). -/
def holdStep (d : Dev) : Dev := { d with holdTimer := dec0 d.holdTimer }

/-- DTICK: the steps in order; transmit permission and power state are sampled at entry (43_tick.md R150). -/
def deviceTick (c : Params) (lineIdle : Bool) (s : State) : State :=
  let txOk := txPermitted lineIdle s.rxc
  let power := powerEnable c s.dev
  let s := s.setRxc (timeoutStep s.rxc)
  if c.hasDev then
    let s := s.setDev (heartbeatStep c power s.dev)
    let s := s.setDev (secondStep c s.dev)
    let s := s.setDev (relayStep s.dev)
    let s := ledStep c txOk s
    s.setDev (holdStep s.dev)
  else s

/-- DTICK (43_tick.md R150). -/
def execDtick (lineIdle : Bool) (s : State) : Host.Outcome State Fault Refusal :=
  .next ((deviceTick Config.pibus lineIdle s).answer .nothing)

/-- TXEMIT (43_tick.md R158). -/
def execTxemit (body : Packet) (s : State) : Host.Outcome State Fault Refusal :=
  .next ((emitMessage body s).answer .nothing)

end Sys2Proof.Machine
end

