-- ==== Sys2Proof/Machine/TxQueue.lean ====
section
/-! DEFINITION. TXQ: ENQ, STICK, RMMATCH, RMTAG, DISCARD (44_txqueue.md). -/

namespace Sys2Proof.Machine

open Sys2Proof

/-- The entry ENQ makes (44_txqueue.md R170). -/
def newEntry (c : Params) (bytes : Packet) (sync : Bool) (tag : Tag) : Entry where
  bytes := framed bytes
  countdown := c.initialDelay
  sync := sync
  tag := tag
  attempts := 0

/-- ENQ (44_txqueue.md R170, R171). -/
def enqueue (c : Params) (bytes : Packet) (sync : Bool) (tag : Tag) (prepend : Bool) (s : State) : State :=
  if bytes.length = 0 ∨ c.maxPacketSize < bytes.length ∨ s.txq.queue.length = c.queueCapacity then
    s.raise .enqueueRefused
  else
    let e := newEntry c bytes sync tag
    s.setTxq { s.txq with queue := if prepend then e :: s.txq.queue else s.txq.queue ++ [e] }

/-- What a scan of the queue gives: the entries after it, the events it emitted, and the index of the entry that meets the
give-up condition, if the scan ended there. -/
structure Scan where
  entries  : List Entry
  events   : List OutEvent
  giveUpAt : Option Nat
deriving DecidableEq, Repr

/-- The loop of STICK over the entries from index `i` on (44_txqueue.md R172, R177 to R179). -/
def scanFrom (c : Params) (linkGood : Bool) : Nat → List Entry → Scan
  | _, [] => { entries := [], events := [], giveUpAt := none }
  | i, e :: rest =>
    if e.sync && i != 0 then { entries := e :: rest, events := [], giveUpAt := none }
    else if e.countdown = 0 then
      if c.retryLimit < e.attempts ∧ linkGood = false then { entries := e :: rest, events := [], giveUpAt := some i }
      else
        let r := scanFrom c linkGood (i + 1) rest
        { r with entries := entrySent c e :: r.entries, events := .tx e.bytes :: .observe e.bytes :: r.events }
    else
      let r := scanFrom c linkGood (i + 1) rest
      { r with entries := e :: r.entries }

/-- STICK (44_txqueue.md R172 to R181), with its result pair as the answer. -/
def serviceTick (c : Params) (canTransmit ctsReady lineIdle rxBufferEmpty : Bool) (s : State) : State :=
  let s := s.setTxq { s.txq with queue := s.txq.queue.map entryTick }
  if !canTransmit then s.answer (.stick false false)
  else if s.txq.queue.isEmpty then s.answer (.stick false false)
  else if !ctsReady || !lineIdle || !rxBufferEmpty then s.answer (.stick true false)
  else
    let r := scanFrom c s.txq.linkGood 0 s.txq.queue
    let s := (s.setTxq { s.txq with queue := r.entries }).emit r.events
    match r.giveUpAt with
    | some i => (s.raise (.giveUp i)).answer (.stick false true)
    | none => (if r.events.isEmpty then s else s.emit [.txFlush]).answer (.stick false false)

/-- RMTAG (44_txqueue.md R183). -/
def removeTag (tag : Tag) (q : Txq) : Txq := { q with queue := q.queue.filter fun e => e.tag != tag }

/-- DISCARD (44_txqueue.md R184). -/
def discardAll (q : Txq) : Txq := { q with queue := [] }

/-- ENQ (44_txqueue.md R170). -/
def execEnq (bytes : Packet) (sync : Bool) (tag : Tag) (prepend : Bool) (s : State) : Host.Outcome State Fault Refusal :=
  .next ((enqueue Config.pibus bytes sync tag prepend s).answer .nothing)

/-- STICK (44_txqueue.md R172). -/
def execStick (canTransmit ctsReady lineIdle rxBufferEmpty : Bool) (s : State) : Host.Outcome State Fault Refusal :=
  .next (serviceTick Config.pibus canTransmit ctsReady lineIdle rxBufferEmpty s)

/-- RMMATCH (44_txqueue.md R182). -/
def execRmmatch (bytes : Packet) (s : State) : Host.Outcome State Fault Refusal :=
  .next ((s.setTxq (removeMatching Config.pibus bytes s.txq)).answer .nothing)

/-- RMTAG (44_txqueue.md R183). -/
def execRmtag (tag : Tag) (s : State) : Host.Outcome State Fault Refusal :=
  .next ((s.setTxq (removeTag tag s.txq)).answer .nothing)

/-- DISCARD (44_txqueue.md R184). -/
def execDiscard (s : State) : Host.Outcome State Fault Refusal :=
  .next ((s.setTxq (discardAll s.txq)).answer .nothing)

end Sys2Proof.Machine
end

