-- ==== Sys2Proof/Machine/Dispatch.lean ====
section
/-! DEFINITION. The meaning of every operation: one arm per constructor of `Instr`. -/

namespace Sys2Proof.Machine

open Sys2Proof

def exec (i : Instr) (s : State) : Host.Outcome State Fault Refusal :=
  match i with
  | .rxbyte data fault => Sys2Proof.Machine.execRxbyte data fault s
  | .dtick lineIdle => Sys2Proof.Machine.execDtick lineIdle s
  | .stick ct cts li rxe => Sys2Proof.Machine.execStick ct cts li rxe s
  | .enq bytes sync tag prepend => Sys2Proof.Machine.execEnq bytes sync tag prepend s
  | .rmmatch bytes => Sys2Proof.Machine.execRmmatch bytes s
  | .rmtag tag => Sys2Proof.Machine.execRmtag tag s
  | .discard => Sys2Proof.Machine.execDiscard s
  | .reset => Sys2Proof.Machine.execReset s
  | .chk bytes => Sys2Proof.Machine.execChk bytes s
  | .xsize len => Sys2Proof.Machine.execXsize len s
  | .frame bytes => Sys2Proof.Machine.execFrame bytes s
  | .verify bytes => Sys2Proof.Machine.execVerify bytes s
  | .accreset => Sys2Proof.Machine.execAccreset s
  | .complete => Sys2Proof.Machine.execComplete s
  | .dispatch pkt => Sys2Proof.Machine.execDispatch pkt s
  | .setsrc source save => Sys2Proof.Machine.execSetsrc source save s
  | .ledreq code => Sys2Proof.Machine.execLedreq code s
  | .txemit body => Sys2Proof.Machine.execTxemit body s
  | .cycle pkt => Sys2Proof.Machine.execCycle pkt s
  | .gear pkt => Sys2Proof.Machine.execGear pkt s
  | .fob pkt => Sys2Proof.Machine.execFob pkt s
  | .cdcEnter pkt => Sys2Proof.Machine.execCdcEnter pkt s
  | .cdcExitBtn pkt => Sys2Proof.Machine.execCdcExitBtn pkt s
  | .cdcExitMenu pkt => Sys2Proof.Machine.execCdcExitMenu pkt s

end Sys2Proof.Machine
end

