-- ==== Sys2Proof/Machine/Step.lean ====
section
/-! DEFINITION. One step: the next event the environment presents is decoded and performed completely (20_memory.md R58). -/

namespace Sys2Proof.Machine

open Sys2Proof

/-- Take the next frame out of the inbox, decode it and perform it. With no event to come the block waits and no state changes
(60_exceptions.md R218, 70_reset_and_hazards.md R244). A frame that does not decode is refused (30_encoding.md R74). -/
def step (s : State) : Host.Outcome State Fault Refusal :=
  match takeFrame s with
  | none => .next s
  | some (f, s) => match decode Config.pibus f with
    | .ok i => exec i s
    | .error r => .refused (.undecodable r)

/-- The table word's frame placed first in the inbox, where `step` takes its next event (notes/assumptions/1, 13). -/
def State.withFetchWord (s : State) (nbits w : Nat) : State := s.present (frameOfWord nbits w)

end Sys2Proof.Machine
end

