-- ==== Sys2Proof/Safety.lean ====
section
/-! DEFINITION. What claims are stated in: a run (70_reset_and_hazards.md R244), a packet as events (30_encoding.md R84), when a
byte completes a packet and when a run is quiet, and the bounds every state keeps (10_state.md R21 to R37). -/

namespace Sys2Proof.Machine

open Sys2Proof

/-- A run: the operations applied in order, stopping at the first that gives no next state (70_reset_and_hazards.md R244). -/
def runOps : List Instr → State → Host.Outcome State Fault Refusal
  | [], s => .next s
  | i :: is, s => match exec i s with
    | .next t => runOps is t
    | .fault r => .fault r
    | .refused r => .refused r

/-- `rxpkt`: the RXBYTE events of a packet, fault-free (30_encoding.md R84). -/
def rxpkt (p : Packet) : List Instr := p.map fun b => .rxbyte b 0

/-- The external events (30_encoding.md R74). -/
def Instr.isEvent : Instr → Bool
  | .rxbyte _ _ => true
  | .dtick _ => true
  | .stick _ _ _ _ => true
  | .enq _ _ _ _ => true
  | .rmmatch _ => true
  | .rmtag _ => true
  | .discard => true
  | .reset => true
  | .chk _ => false
  | .xsize _ => false
  | .frame _ => false
  | .verify _ => false
  | .accreset => false
  | .complete => false
  | .dispatch _ => false
  | .setsrc _ _ => false
  | .ledreq _ => false
  | .txemit _ => false
  | .cycle _ => false
  | .gear _ => false
  | .fob _ => false
  | .cdcEnter _ => false
  | .cdcExitBtn _ => false
  | .cdcExitMenu _ => false

/-- The operation is an RXBYTE whose byte is stored and completes a packet (41_receive.md R110, R114). -/
def completesPacket (i : Instr) (s : State) : Prop :=
  ∃ d, i = .rxbyte d 0 ∧ s.rxc.cursor < 32 ∧ 5 ≤ s.rxc.cursor + 1 ∧
    ((s.rxc.acc.set s.rxc.cursor d).getD 1 0).toNat + 2 = s.rxc.cursor + 1

/-- Along the run only external events other than RESET occur and none completes a packet (43_tick.md R159). -/
def QuietRun : List Instr → State → Prop
  | [], _ => True
  | i :: is, s => Instr.isEvent i = true ∧ i ≠ .reset ∧ ¬ completesPacket i s ∧ ∀ t, exec i s = .next t → QuietRun is t

/-- The number of DTICKs in a run. -/
def dticks (is : List Instr) : Nat := is.countP fun i => match i with
  | .dtick _ => true
  | _ => false

/-- The entries a STICK's scan visits: all before the first sync entry that is not the head (44_txqueue.md R177). -/
def scanned : List Entry → List Entry
  | [] => []
  | e :: rest => e :: rest.takeWhile fun x => !x.sync

/-- The entry meets the give-up condition when the scan reaches it (44_txqueue.md R178). -/
def givesUp (linkGood : Bool) (e : Entry) : Prop := e.countdown = 0 ∧ 3 < e.attempts ∧ linkGood = false

/-- A visited entry after the scan: sent if its countdown is 0, else left alone (44_txqueue.md R177, R179). -/
def visited (e : Entry) : Entry :=
  if e.countdown = 0 then { e with attempts := min (e.attempts + 1) 255, countdown := 10 } else e

/-- What the scan emits for a visited entry (44_txqueue.md R179). -/
def visitEvents (e : Entry) : List OutEvent := if e.countdown = 0 then [.tx e.bytes, .observe e.bytes] else []

/-- One STICK with transmission possible and arbitration passed. -/
def clearStick : Instr := .stick true true true true

/-- The bounds of RXC state (10_state.md R21 to R23); the timeout runs exactly while a packet is partial (41_receive.md R113, R117). -/
def Rxc.Inv (c : Params) (r : Rxc) : Prop :=
  r.acc.length = c.accCapacity ∧ r.cursor ≤ c.accCapacity ∧ r.rxTimeout ≤ c.rxTimeoutTicks ∧
    (r.cursor = 0 ↔ r.rxTimeout = 0)

/-- The bounds of DEV state (10_state.md R28 to R34), and what LEDREQ, FOB and the LED step keep of their bits
(43_tick.md R156, R157). -/
def Dev.Inv (c : Params) (d : Dev) : Prop :=
  d.ledTimer ≤ c.ledDisplayTicks ∧ d.idleCounter ≤ c.idleThreshold ∧ d.secDiv ≤ c.ticksPerSecond - 1 ∧
    d.relayTimer ≤ c.relayPulseTicks ∧ d.holdTimer ≤ c.holdTicks ∧ d.hbDiv ≤ max c.hbHalfFast c.hbHalfSlow - 1 ∧
    (d.ledReq ≠ none → d.ledClearPending = false) ∧ (d.ledClearPending = true → d.ledTimer = 0) ∧
    (d.holdArmed = false → d.holdTimer = 0)

/-- The bounds of a queue entry; its bytes are framed (10_state.md R36). -/
def Entry.Inv (c : Params) (e : Entry) : Prop :=
  1 ≤ e.bytes.length ∧ e.bytes.length ≤ c.maxPacketSize ∧ verified e.bytes = true ∧
    e.countdown ≤ max c.initialDelay c.resendWindow ∧ e.attempts ≤ 255

/-- The bounds of TXQ state (10_state.md R36); on an unproven link no entry passes RETRY_LIMIT + 1 attempts (decision D32). -/
def Txq.Inv (c : Params) (q : Txq) : Prop :=
  q.queue.length ≤ c.queueCapacity ∧ (∀ e ∈ q.queue, e.Inv c) ∧
    (q.linkGood = false → ∀ e ∈ q.queue, e.attempts ≤ c.retryLimit + 1)

/-- Every packet handed to the transport or shown to the observer carries its checksum (30_encoding.md R72, 43_tick.md R158,
44_txqueue.md R179). -/
def framedOutput (out : List OutEvent) : Prop :=
  ∀ b, OutEvent.tx b ∈ out ∨ OutEvent.observe b ∈ out → verified b = true

/-- The invariant of the machine. -/
def State.Inv (c : Params) (s : State) : Prop :=
  s.rxc.Inv c ∧ s.dev.Inv c ∧ s.txq.Inv c ∧ framedOutput s.out

end Sys2Proof.Machine
end

