-- ==== Sys2Proof/Certificates/Slice0/Obligations.lean ====
section
/-! DEFINITION. The statements for the provers. Numbers that the spec gives for this hardware stand as numerals; OPEN parameters
stand under their names in `Config.pibus`. -/

open Sys2Proof Sys2Proof.Machine

/-! ## FRM -/

/-- R100: CHK is the bitwise XOR of all bytes: bit `i` is set iff an odd number of bytes have it set; with the rule's corner
cases. CHK only answers. -/
def Obligations.ChkIsBitwiseXorOfAllBytes : Prop :=
  ∀ (b : Packet) (s : State), ∃ x : Byte,
    exec (.chk b) s = .next { s with result := .byte x } ∧
    (∀ i, i < 8 → x.getLsbD i = decide (b.countP (fun y => y.getLsbD i) % 2 = 1)) ∧
    (b = [] → x = 0) ∧ (∀ y, b = [y] → x = y) ∧
    exec (.chk (b ++ [x])) s = .next { s with result := .byte 0 }

/-- R101: XSIZE adds 2 in natural numbers, range 2 to 257. XSIZE only answers. -/
def Obligations.XsizeAddsTwoWithoutWrap : Prop :=
  ∀ (len : Byte) (s : State),
    exec (.xsize len) s = .next { s with result := .size (len.toNat + 2) } ∧ 2 ≤ len.toNat + 2 ∧ len.toNat + 2 ≤ 257

/-- R102: FRAME keeps the size and every byte but the last, which becomes the CHK of the others; the placeholder is ignored,
and framing again changes nothing. FRAME only answers. -/
def Obligations.FrameFillsTheTrailingChecksum : Prop :=
  ∀ (b : Packet) (s : State), b ≠ [] → ∃ (x : Byte) (r : Packet),
    exec (.chk b.dropLast) s = .next { s with result := .byte x } ∧ r = b.dropLast ++ [x] ∧ r.length = b.length ∧
    exec (.frame b) s = .next { s with result := .bytes r } ∧
    (∀ y, exec (.frame (b.dropLast ++ [y])) s = .next { s with result := .bytes r }) ∧
    exec (.frame r) s = .next { s with result := .bytes r }

/-- R103: VERIFY is true iff the last byte is the CHK of the bytes before it, equivalently iff CHK of all is 00; one flipped
bit anywhere makes it false, the same bit flipped in two bytes cancels. VERIFY only answers. -/
def Obligations.VerifyComparesTheTrailingChecksum : Prop :=
  ∀ (p : Packet) (s : State), p ≠ [] → ∃ v : Bool,
    exec (.verify p) s = .next { s with result := .bool v } ∧
    (v = true ↔ ∃ x, exec (.chk p.dropLast) s = .next { s with result := .byte x } ∧ p.getLast? = some x) ∧
    (v = true ↔ exec (.chk p) s = .next { s with result := .byte 0 }) ∧
    (∀ i j, i < p.length → j < 8 → v = true →
      exec (.verify (p.set i (p.getD i 0 ^^^ BitVec.twoPow 8 j))) s = .next { s with result := .bool false }) ∧
    (∀ i k j, i < k → k < p.length → j < 8 →
      exec (.verify ((p.set i (p.getD i 0 ^^^ BitVec.twoPow 8 j)).set k (p.getD k 0 ^^^ BitVec.twoPow 8 j))) s =
        .next { s with result := .bool v })

/-- The source's round-trip framing law (S1), which the spec derives: what FRAME makes, VERIFY accepts, and the checksum a
receiver recomputes is the byte the sender wrote. -/
def Obligations.RoundTripFramingLaw : Prop :=
  ∀ (b : Packet) (s : State), b ≠ [] → ∃ (r : Packet) (x : Byte),
    exec (.frame b) s = .next { s with result := .bytes r } ∧ exec (.verify r) s = .next { s with result := .bool true } ∧
    exec (.chk r.dropLast) s = .next { s with result := .byte x } ∧ r.getLast? = some x

/-! ## RXC -/

/-- R111: a faulty byte, whichever fault bits are set, changes nothing and emits nothing. -/
def Obligations.FaultyByteChangesNothing : Prop :=
  ∀ (d : Byte) (f : BitVec 3) (s : State), f ≠ 0 → exec (.rxbyte d f) s = .next { s with result := .nothing }

/-- A fault-free byte at a full accumulator is dropped with ACC_OVERFLOW and no other effect, so the accumulator stays full.
The spec marks this as its own ("the behaviour at the bound is the spec's own", 41_receive.md; decision D6). -/
def Obligations.ByteAtFullAccumulatorIsDropped : Prop :=
  ∀ (d : Byte) (s : State), s.rxc.cursor = 32 →
    exec (.rxbyte d 0) s = .next { s with out := s.out ++ [.accOverflow], result := .nothing }

/-- R113: a fault-free byte at a `cursor` below 32 is written at ACC[cursor], and every other byte of ACC reads as before,
whether or not it completes a packet; if it does not, `cursor` grows by 1, the timeout is loaded (decision D8), and nothing
else changes. -/
def Obligations.ByteIsStoredAtTheCursor : Prop :=
  ∀ (d : Byte) (s : State), s.rxc.acc.length = 32 → s.rxc.cursor < 32 →
    ∃ t, exec (.rxbyte d 0) s = .next t ∧
      t.rxc.acc.length = 32 ∧ t.rxc.acc[s.rxc.cursor]? = some d ∧ (∀ i, i ≠ s.rxc.cursor → t.rxc.acc[i]? = s.rxc.acc[i]?) ∧
      (¬ completesPacket (.rxbyte d 0) s →
        t.rxc.cursor = s.rxc.cursor + 1 ∧ t.rxc.rxTimeout = 1 ∧
          t.dev = s.dev ∧ t.txq = s.txq ∧ t.out = s.out ∧ t.result = .nothing ∧ t.inbox = s.inbox)

/-- R114: the byte completes iff the new `cursor` is at least 5 and equals ACC[1] + 2; so only for ACC[1] from 03 to 1E, at
sizes 5 to 32, and never for ACC[1] of 00 to 02 or 1F to FF. -/
def Obligations.CompletionTestIsDeclaredSize : Prop :=
  ∀ (d : Byte) (s : State), s.rxc.cursor < 32 → ∃ t, exec (.rxbyte d 0) s = .next t ∧
    (t.rxc.cursor = 0 ↔ 5 ≤ s.rxc.cursor + 1 ∧ (t.rxc.acc.getD 1 0).toNat + 2 = s.rxc.cursor + 1) ∧
    (t.rxc.cursor = 0 → 0x03 ≤ (t.rxc.acc.getD 1 0).toNat ∧ (t.rxc.acc.getD 1 0).toNat ≤ 0x1E) ∧
    (t.rxc.cursor ≠ 0 → t.rxc.cursor = s.rxc.cursor + 1)

/-- R115: COMPLETE dispatches the accumulated packet, clears the idle counter and its prescaler (so power is deasserted),
removes the packet's echo from the queue, and resets the accumulator. It emits nothing. DISPATCH and RMMATCH are the
operations of those names. -/
def Obligations.CompleteRunsItsSequence : Prop :=
  ∀ s : State, ∃ u v : State,
    exec (.dispatch (s.rxc.acc.take s.rxc.cursor)) s = .next u ∧ exec (.rmmatch (s.rxc.acc.take s.rxc.cursor)) s = .next v ∧
    exec .complete s = .next
      { s with
        rxc := { s.rxc with cursor := 0, rxTimeout := 0 }
        dev := { u.dev with idleCounter := 0, secDiv := 0 }
        txq := v.txq
        result := .nothing } ∧
    powerEnable Config.pibus { u.dev with idleCounter := 0, secDiv := 0 } = false

/-- A byte that completes a packet stores itself and then does what COMPLETE does. -/
def Obligations.CompletingByteRunsComplete : Prop :=
  ∀ (d : Byte) (s : State), s.rxc.acc.length = 32 → completesPacket (.rxbyte d 0) s →
    ∃ t : State, exec (.rxbyte d 0) s = .next t ∧
      exec .complete { s with rxc := { s.rxc with acc := s.rxc.acc.set s.rxc.cursor d, cursor := s.rxc.cursor + 1 } } = .next t ∧
      t.rxc.cursor = 0 ∧ t.rxc.rxTimeout = 0 ∧ t.out = s.out ∧ t.inbox = s.inbox ∧
      t.rxc.acc.take (s.rxc.cursor + 1) = s.rxc.acc.take s.rxc.cursor ++ [d]

/-- A whole packet whose bytes arrive with no event between, at an empty accumulator, is handed exactly once, at its last
byte and exactly as it arrived, to DISPATCH and RMMATCH; every shorter prefix stays in the accumulator and changes nothing
else (the source's S2, for every packet of a receivable size). -/
def Obligations.WholePacketIsReceivedAndDispatched : Prop :=
  ∀ (p : Packet) (s : State), s.rxc.acc.length = 32 → s.rxc.cursor = 0 → 5 ≤ p.length → p.length ≤ 32 →
    (p.getD 1 0).toNat + 2 = p.length →
    (∃ t u v : State, runOps (rxpkt p) s = .next t ∧ exec (.dispatch p) s = .next u ∧ exec (.rmmatch p) s = .next v ∧
      t.rxc.cursor = 0 ∧ t.rxc.rxTimeout = 0 ∧ t.rxc.acc = p ++ s.rxc.acc.drop p.length ∧
      t.dev = { u.dev with idleCounter := 0, secDiv := 0 } ∧ t.txq = v.txq ∧ t.out = s.out ∧ t.inbox = s.inbox) ∧
    (∀ n, 0 < n → n < p.length → ∃ t, runOps (rxpkt (p.take n)) s = .next t ∧
      rxcState t.rxc = .accumulating ∧ t.rxc.acc.take t.rxc.cursor = p.take n ∧
      t.dev = s.dev ∧ t.txq = s.txq ∧ t.out = s.out)

/-- R117: ACCRESET makes `cursor` and the timeout 0, clears no byte, touches nothing else, and is idempotent. Nothing but
it, a completion, a DTICK and RESET empties a partial packet; not a faulty byte. -/
def Obligations.AccresetEmptiesWithoutClearing : Prop :=
  (∀ s : State, ∃ t, exec .accreset s = .next t ∧
    t = { s with rxc := { s.rxc with cursor := 0, rxTimeout := 0 }, result := .nothing } ∧ exec .accreset t = .next t) ∧
  ∀ (i : Instr) (s t : State), exec i s = .next t → 0 < s.rxc.cursor → t.rxc.cursor = 0 →
    i = .accreset ∨ i = .complete ∨ (∃ d, i = .rxbyte d 0) ∨ (∃ l, i = .dtick l) ∨ i = .reset

/-- DTICK's timeout step, whose mechanism and value 1 "are the spec's own" (41_receive.md section 3; decision D8). When the
decremented timeout is 0 the accumulator is reset, else only the timeout changes; nothing is dispatched (sources and queue
stay). In this hardware's states the timeout is at most 1, so every DTICK empties the accumulator. -/
def Obligations.DtickDiscardsAPartialPacket : Prop :=
  ∀ (l : Bool) (s : State), ∃ t, exec (.dtick l) s = .next t ∧
    (s.rxc.rxTimeout ≤ 1 → t.rxc = { s.rxc with cursor := 0, rxTimeout := 0 }) ∧
    (1 < s.rxc.rxTimeout → t.rxc = { s.rxc with rxTimeout := s.rxc.rxTimeout - 1 }) ∧
    (s.Inv Config.pibus → t.rxc.cursor = 0) ∧ t.dev.videoSource = s.dev.videoSource ∧ t.dev.savedSource = s.dev.savedSource ∧
    t.txq = s.txq

/-! ## DEV: reactions -/

/-- R76: a pattern matches iff the sizes are equal and the masked bytes agree at every offset below `size - 1`; the checksum
byte is never compared. -/
def Obligations.PatternMatchIsMaskedEquality : Prop :=
  ∀ pat : Pattern, pat.wf →
    (∀ pkt, patMatches pat pkt = true ↔ pkt.length = pat.size ∧
      ∀ i, i < pat.size - 1 → pkt.getD i 0 &&& pat.mask.getD i 0 = pat.want.getD i 0 &&& pat.mask.getD i 0) ∧
    (∀ (p : Packet) (x y : Byte), patMatches pat (p ++ [x]) = patMatches pat (p ++ [y]))

/-- The row CYCLE of the reaction table (R77): it is selected by exactly the packets of size 6 that begin F0 04 FF 48 08,
whatever their checksum byte. -/
def Obligations.CycleIsSelectedByItsButtonPacket : Prop :=
  ∀ pkt : Packet, selectReaction Config.pibus pkt = some .cycle ↔ ∃ x, pkt = [0xF0, 0x04, 0xFF, 0x48, 0x08, x]

/-- DISPATCH performs the reaction of the first matching row, and nothing if none matches (42_reactions.md section 1;
EXTRA_REACTIONS is empty for this hardware). It writes DEV state only. The spec names packets of 5 to 32 bytes; that packets of
other sizes are compared and ignored the same way is the model's inference (log entry 11). -/
def Obligations.DispatchFiresTheFirstMatchingRow : Prop :=
  ∀ (pkt : Packet) (s : State), ∃ t, exec (.dispatch pkt) s = .next t ∧
    (.next t =
      if patMatches Config.pibus.patCycle pkt then exec (.cycle pkt) s
      else if patMatches Config.pibus.patGear pkt then exec (.gear pkt) s
      else if patMatches Config.pibus.patFob pkt then exec (.fob pkt) s
      else if patMatches Config.pibus.patCdcEnter pkt then exec (.cdcEnter pkt) s
      else if patMatches Config.pibus.patCdcExitBtn pkt then exec (.cdcExitBtn pkt) s
      else if patMatches Config.pibus.patCdcExitMenu pkt then exec (.cdcExitMenu pkt) s
      else .next { s with result := .nothing }) ∧
    t.rxc = s.rxc ∧ t.txq = s.txq ∧ t.out = s.out ∧ t.result = .nothing ∧ t.inbox = s.inbox

/-- R132: CYCLE moves both sources to the next of BUS, COMPANION, CAMERA, BUS after the current video source and requests
that source's LED pattern; nothing else changes. -/
def Obligations.CycleAdvancesTheSource : Prop :=
  ∀ (pkt : Packet) (s : State), ∃ (v : VideoSource) (p : LedPattern),
    (s.dev.videoSource, v, p) ∈
      [ (VideoSource.bus, VideoSource.companion, LedPattern.companion), (.companion, .camera, .camera), (.camera, .bus, .bus) ] ∧
    exec (.cycle pkt) s = .next
      { s with
        dev := { s.dev with
          videoSource := v, savedSource := v, ledReq := some p, ledTimer := Config.pibus.ledDisplayTicks
          ledClearPending := false }
        result := .nothing }

/-- R133: a gear packet whose byte 4 has high nibble 1 selects the camera, any other restores the saved source; the saved
source and everything else stay. -/
def Obligations.GearForcesCameraOrRestores : Prop :=
  ∀ (pkt : Packet) (s : State) (h : 4 < pkt.length),
    exec (.gear pkt) s = .next
      { s with
        dev := { s.dev with videoSource := if (pkt[4]).toNat / 16 = 1 then .camera else s.dev.savedSource }
        result := .nothing }

/-- The long press, whose mechanism "is the spec's reconstruction" (42_reactions.md, FOB; decision D16). Pressed and not
armed arms; pressed and armed changes nothing; released fires the relay and the BLINK_ALL request iff armed and expired, and
always disarms. Nothing else changes. The button is compared as 30_encoding.md section 3 says. -/
def Obligations.FobArmsFiresAndDisarms : Prop :=
  ∀ (pkt : Packet) (s : State) (h : Config.pibus.fobIdx < pkt.length),
    exec (.fob pkt) s = .next
      { s with
        dev :=
          if pkt[Config.pibus.fobIdx] &&& Config.pibus.fobMask = Config.pibus.fobVal then
            if s.dev.holdArmed then s.dev else { s.dev with holdArmed := true, holdTimer := Config.pibus.holdTicks }
          else if s.dev.holdArmed = true ∧ s.dev.holdTimer = 0 then
            { s.dev with
              holdArmed := false, holdTimer := 0, relayTimer := Config.pibus.relayPulseTicks, ledReq := some .blinkAll
              ledTimer := Config.pibus.ledDisplayTicks, ledClearPending := false }
          else { s.dev with holdArmed := false, holdTimer := 0 }
        result := .nothing }

/-- R135, R136, R137: CDC entry selects and saves the companion source, each CDC exit the bus source, unconditionally; no
LED request, nothing else. -/
def Obligations.CdcReactionsSelectAndSave : Prop :=
  ∀ (pkt : Packet) (s : State),
    exec (.cdcEnter pkt) s = .next
      { s with dev := { s.dev with videoSource := .companion, savedSource := .companion }, result := .nothing } ∧
    exec (.cdcExitBtn pkt) s = .next
      { s with dev := { s.dev with videoSource := .bus, savedSource := .bus }, result := .nothing } ∧
    exec (.cdcExitMenu pkt) s = .next
      { s with dev := { s.dev with videoSource := .bus, savedSource := .bus }, result := .nothing }

/-- R139: SETSRC writes the video source, and the saved source iff asked to; nothing else. The three lines are VIDEO_LINES
of the new source in the same event. -/
def Obligations.SetsrcWritesSourceAndLines : Prop :=
  ∀ (v : VideoSource) (save : Bool) (s : State), ∃ t, exec (.setsrc v save) s = .next t ∧
    t = { s with
      dev := { s.dev with videoSource := v, savedSource := if save then v else s.dev.savedSource }, result := .nothing } ∧
    (levels Config.pibus t).video = Config.pibus.videoLines v

/-- R140: LEDREQ of each of the four patterns records the request, loads the display timer and cancels a pending clear; nothing
is transmitted and nothing else changes. -/
def Obligations.LedreqRecordsTheRequest : Prop :=
  ∀ (p : LedPattern) (s : State),
    exec (.ledreq (some p)) s = .next
      { s with
        dev := { s.dev with ledReq := some p, ledTimer := Config.pibus.ledDisplayTicks, ledClearPending := false }
        result := .nothing }

/-! ## DTICK and TXEMIT -/

/-- TXEMIT emits one TX of the body framed with a placeholder 00, and changes no state; no OBSERVE, no TX_FLUSH (43_tick.md,
TXEMIT). The spec names bodies of 3 to 31 bytes; that bodies of other sizes are framed the same way is the model's inference
(log entry 11). -/
def Obligations.TxemitEmitsOneFramedPacket : Prop :=
  ∀ (body : Packet) (s : State), ∃ r,
    exec (.frame (body ++ [0])) s = .next { s with result := .bytes r } ∧
    exec (.txemit body) s = .next { s with out := s.out ++ [.tx r], result := .nothing }

/-- DTICK always completes, and leaves alone what none of its steps names: both sources, `hold_armed`, the queue, the bytes
of ACC and the events to come. -/
def Obligations.DtickCompletesWithItsFrame : Prop :=
  ∀ (l : Bool) (s : State), ∃ t, exec (.dtick l) s = .next t ∧
    t.dev.videoSource = s.dev.videoSource ∧ t.dev.savedSource = s.dev.savedSource ∧ t.dev.holdArmed = s.dev.holdArmed ∧
    t.txq = s.txq ∧ t.rxc.acc = s.rxc.acc ∧ t.result = .nothing ∧ t.inbox = s.inbox

/-- The heartbeat, "the spec's stand-in" (43_tick.md; decision D25): the divider grows by 1; at the half-period (slow if
power was asserted at entry, else fast) it returns to 0 and the line toggles. -/
def Obligations.DtickAdvancesTheHeartbeat : Prop :=
  ∀ (l : Bool) (s : State), ∃ t, exec (.dtick l) s = .next t ∧
    (t.dev.hbDiv, t.dev.hbLed) =
      if (if 360 ≤ s.dev.idleCounter then Config.pibus.hbHalfSlow else Config.pibus.hbHalfFast) ≤ s.dev.hbDiv + 1
      then (0, !s.dev.hbLed) else (s.dev.hbDiv + 1, s.dev.hbLed)

/-- R154: the prescaler counts to 150 DTICKs; each full count is one second of the idle counter, which saturates at 360.
Only DTICK, a completion (COMPLETE, RXBYTE) and RESET write the two. -/
def Obligations.DtickCountsIdleSeconds : Prop :=
  (∀ (l : Bool) (s : State), ∃ t, exec (.dtick l) s = .next t ∧
    (t.dev.secDiv, t.dev.idleCounter) =
      (if 150 ≤ s.dev.secDiv + 1 then (0, if s.dev.idleCounter < 360 then s.dev.idleCounter + 1 else s.dev.idleCounter)
       else (s.dev.secDiv + 1, s.dev.idleCounter))) ∧
  ∀ (i : Instr) (s t : State), exec i s = .next t → i ≠ .reset → i ≠ .complete → (∀ l, i ≠ .dtick l) → (∀ d f, i ≠ .rxbyte d f) →
    t.dev.secDiv = s.dev.secDiv ∧ t.dev.idleCounter = s.dev.idleCounter

/-- R155, R157: over any number of DTICKs the relay and long-press countdowns each fall by one a DTICK with a floor of zero,
and the relay line is high exactly while DTICKs of its pulse remain. -/
def Obligations.DticksRunRelayAndHoldCountdowns : Prop :=
  ∀ (ls : List Bool) (s : State), ∃ t, runOps (ls.map .dtick) s = .next t ∧
    t.dev.relayTimer = s.dev.relayTimer - ls.length ∧ t.dev.holdTimer = s.dev.holdTimer - ls.length ∧
    t.dev.holdArmed = s.dev.holdArmed ∧ (auxRelay t.dev = true ↔ ls.length < s.dev.relayTimer)

/-- The LED step, whose mechanism "is the spec's reconstruction" (43_tick.md; decisions D18, D19). A pending request is
transmitted and cleared iff the line is idle and no packet was partial at entry, else it waits unchanged; with no request
the display countdown runs, its expiry makes a clear due, and a due clear is transmitted under the same condition. A DTICK
emits nothing else. -/
def Obligations.DtickDrivesTheLeds : Prop :=
  ∀ (l : Bool) (s : State), ∃ t, exec (.dtick l) s = .next t ∧
    (∀ p, s.dev.ledReq = some p → l = true ∧ s.rxc.cursor = 0 →
      t.dev.ledReq = none ∧ t.dev.ledTimer = s.dev.ledTimer ∧ t.dev.ledClearPending = s.dev.ledClearPending ∧
      ∃ u, exec (.txemit (Config.pibus.ledBody (.pattern p))) s = .next u ∧ t.out = u.out) ∧
    (∀ p, s.dev.ledReq = some p → ¬ (l = true ∧ s.rxc.cursor = 0) →
      t.dev.ledReq = some p ∧ t.dev.ledTimer = s.dev.ledTimer ∧ t.dev.ledClearPending = s.dev.ledClearPending ∧ t.out = s.out) ∧
    (s.dev.ledReq = none → t.dev.ledReq = none ∧ t.dev.ledTimer = s.dev.ledTimer - 1) ∧
    (s.dev.ledReq = none → s.dev.ledClearPending = true ∨ s.dev.ledTimer = 1 → l = true ∧ s.rxc.cursor = 0 →
      t.dev.ledClearPending = false ∧ ∃ u, exec (.txemit (Config.pibus.ledBody .clear)) s = .next u ∧ t.out = u.out) ∧
    (s.dev.ledReq = none → s.dev.ledClearPending = true ∨ s.dev.ledTimer = 1 → ¬ (l = true ∧ s.rxc.cursor = 0) →
      t.dev.ledClearPending = true ∧ t.out = s.out) ∧
    (s.dev.ledReq = none → s.dev.ledClearPending = false → s.dev.ledTimer ≠ 1 →
      t.dev.ledClearPending = false ∧ t.out = s.out)

/-- The idle-power law (the spec derives it; the source's S7): from a cleared idle counter and prescaler, along any run of
external events in which no packet completes and no RESET occurs, power is asserted exactly from the 54000th DTICK on. -/
def Obligations.IdlePowerLaw : Prop :=
  ∀ (is : List Instr) (s : State), s.Inv Config.pibus → s.dev.idleCounter = 0 → s.dev.secDiv = 0 → QuietRun is s →
    ∃ t, runOps is s = .next t ∧ (powerEnable Config.pibus t.dev = true ↔ 54000 ≤ dticks is)

/-- The long-press law that follows from the spec's reconstruction (decision D16), for every parameter choice with a DEV
unit: press, any number of DTICKs, release. The relay pulse and the BLINK_ALL request are fired iff at least HOLD_TICKS
DTICKs came between; disarmed either way. -/
def Obligations.LongPressFiresAfterHoldTicks : Prop :=
  ∀ (c : Params) (press release : Packet) (ls : List Bool) (s : State), c.hasDev = true →
    fobPressed c press = true → fobPressed c release = false → s.dev.holdArmed = false →
    let held := ls.foldl (fun u l => deviceTick c l u) (s.setDev (reactFob c press s.dev))
    let d := reactFob c release held.dev
    d.holdArmed = false ∧ d.holdTimer = 0 ∧
      (c.holdTicks ≤ ls.length → d.relayTimer = c.relayPulseTicks ∧ d.ledReq = some .blinkAll) ∧
      (ls.length < c.holdTicks → d.relayTimer = s.dev.relayTimer - ls.length ∧ d.ledReq = held.dev.ledReq)

/-! ## TXQ -/

/-- R170: an accepted ENQ makes one entry with the framed bytes, countdown 1, no attempts, and puts it at the tail, or at
the head when asked to; it transmits nothing and does not look at the length field. -/
def Obligations.EnqInsertsAFramedEntry : Prop :=
  ∀ (bytes : Packet) (sync : Bool) (tag : Tag) (prepend : Bool) (s : State), 1 ≤ bytes.length → bytes.length ≤ 32 →
    s.txq.queue.length ≠ Config.pibus.queueCapacity → ∃ r,
      exec (.frame bytes) s = .next { s with result := .bytes r } ∧
      exec (.enq bytes sync tag prepend) s = .next
        { s with
          txq := { s.txq with
            queue :=
              if prepend then { bytes := r, countdown := 1, sync := sync, tag := tag, attempts := 0 } :: s.txq.queue
              else s.txq.queue ++ [{ bytes := r, countdown := 1, sync := sync, tag := tag, attempts := 0 }] }
          result := .nothing }

/-- R171: an empty or oversized packet, or any packet at a full queue, is refused whole with ENQ_REJECT. -/
def Obligations.EnqRefusesWhole : Prop :=
  ∀ (bytes : Packet) (sync : Bool) (tag : Tag) (prepend : Bool) (s : State),
    bytes.length = 0 ∨ 32 < bytes.length ∨ s.txq.queue.length = Config.pibus.queueCapacity →
      exec (.enq bytes sync tag prepend) s = .next { s with out := s.out ++ [.enqReject], result := .nothing }

/-- R174 to R176: a STICK that makes no scan takes one from every countdown (floor zero) and ends with (0, 0) when the
transport cannot transmit or the queue is empty, and with (1, 0) when arbitration fails; nothing is emitted and nothing else
changes. -/
def Obligations.StickWithoutAScan : Prop :=
  ∀ (ct cts li rxe : Bool) (s : State),
    (ct = false →
      exec (.stick ct cts li rxe) s = .next
        { s with
          txq := { s.txq with queue := s.txq.queue.map fun e => { e with countdown := e.countdown - 1 } }
          result := .stick false false }) ∧
    (ct = true → s.txq.queue = [] → exec (.stick ct cts li rxe) s = .next { s with result := .stick false false }) ∧
    (ct = true → s.txq.queue ≠ [] → ¬ (cts = true ∧ li = true ∧ rxe = true) →
      exec (.stick ct cts li rxe) s = .next
        { s with
          txq := { s.txq with queue := s.txq.queue.map fun e => { e with countdown := e.countdown - 1 } }
          result := .stick true false })

/-- R177, R179: with arbitration passed and no give-up, exactly the entries before the first sync entry that is not the head
are visited; those with countdown 0 are sent in queue order and updated, all others keep their decremented countdown; one
TX_FLUSH follows iff one was sent; the result is (0, 0). -/
def Obligations.StickSendsTheScannedEntries : Prop :=
  ∀ s : State,
    let q := s.txq.queue.map fun e => { e with countdown := e.countdown - 1 }
    (∀ e ∈ scanned q, ¬ givesUp s.txq.linkGood e) →
      exec clearStick s = .next
        { s with
          txq := { s.txq with queue := (scanned q).map visited ++ q.drop (scanned q).length }
          out := s.out ++ (scanned q).flatMap visitEvents ++
            if ∃ e ∈ scanned q, e.countdown = 0 then [.txFlush] else []
          result := .stick false false }

/-- Give-up; where it is tested, its busy bit and the missing flush "are the spec's own" (44_txqueue.md; decision D31, log
entry 16). The first visited entry that meets the give-up condition ends the STICK: its attempts become 0, entries before it
keep what they received, nothing after it is touched, no TX_FLUSH is emitted, and the result is (0, 1). -/
def Obligations.StickGivesUpOnAnUnprovenLink : Prop :=
  ∀ (s : State) (before : List Entry) (e : Entry) (after : List Entry),
    let q := s.txq.queue.map fun e => { e with countdown := e.countdown - 1 }
    scanned q = before ++ e :: after → (∀ x ∈ before, ¬ givesUp s.txq.linkGood x) → givesUp s.txq.linkGood e →
      exec clearStick s = .next
        { s with
          txq := { s.txq with queue := before.map visited ++ { e with attempts := 0 } :: q.drop (before.length + 1) }
          out := s.out ++ before.flatMap visitEvents
          result := .stick false true }

/-- The sync ordering rule as the spec derives it: a STICK, whatever its inputs, only takes one from the countdown of a sync
entry that is not the head and of everything behind it, and sends none of them: what it emits is TX and OBSERVE of some entries
before the sync entry, in order, then at most one TX_FLUSH. It adds, removes and reorders nothing and keeps `link_good`. -/
def Obligations.SyncEntryHoldsBackWhatIsBehind : Prop :=
  ∀ (ct cts li rxe : Bool) (s : State), ∃ t, exec (.stick ct cts li rxe) s = .next t ∧
    t.txq.queue.map (fun e => (e.bytes, e.sync, e.tag)) = s.txq.queue.map (fun e => (e.bytes, e.sync, e.tag)) ∧
    t.txq.linkGood = s.txq.linkGood ∧ t.rxc = s.rxc ∧ t.dev = s.dev ∧ t.inbox = s.inbox ∧
    ∀ (before : List Entry) (e : Entry) (after : List Entry), s.txq.queue = before ++ e :: after → before ≠ [] →
      e.sync = true →
      t.txq.queue.drop before.length = ((e :: after).map fun x => { x with countdown := x.countdown - 1 }) ∧
      ∃ sent : List Entry, sent.Sublist before ∧
        (t.out = s.out ++ sent.flatMap (fun x => [.tx x.bytes, .observe x.bytes]) ∨
          t.out = s.out ++ sent.flatMap (fun x => [.tx x.bytes, .observe x.bytes]) ++ [.txFlush])

/-- R182: RMMATCH removes the first entry with exactly the given bytes, keeps the order of the others and latches
`link_good`; with no such entry nothing changes. -/
def Obligations.RmmatchRemovesTheFirstEqualEntry : Prop :=
  ∀ (b : Packet) (s : State),
    ((∀ e ∈ s.txq.queue, e.bytes ≠ b) → exec (.rmmatch b) s = .next { s with result := .nothing }) ∧
    ∀ (before : List Entry) (e : Entry) (after : List Entry), s.txq.queue = before ++ e :: after →
      (∀ x ∈ before, x.bytes ≠ b) → e.bytes = b →
      exec (.rmmatch b) s = .next { s with txq := { queue := before ++ after, linkGood := true }, result := .nothing }

/-- R183, R184: RMTAG removes exactly the entries with the tag, in order; DISCARD removes all; both keep `link_good` and are
idempotent. -/
def Obligations.RmtagAndDiscardRemoveEntries : Prop :=
  ∀ (tag : Tag) (s : State),
    (∃ t, exec (.rmtag tag) s = .next t ∧
      t = { s with txq := { s.txq with queue := s.txq.queue.filter fun e => decide (e.tag ≠ tag) }, result := .nothing } ∧
      exec (.rmtag tag) t = .next t) ∧
    (∃ t, exec .discard s = .next t ∧ t = { s with txq := { s.txq with queue := [] }, result := .nothing } ∧
      exec .discard t = .next t)

/-- The give-up law (the spec derives it; the source's S6), as the whole output trace of any number of clear STICKs on one
fresh entry: on an unproven link it is sent in STICKs 1, 11, 21, 31 of every 41 and STICK 41 gives up; on a proven link it
is sent in STICKs 1, 11, 21, ... and give-up never occurs. That the give-up falls on STICK 41 rests on where decision D31 places
the test, which the model follows (log entry 16). -/
def Obligations.GiveUpLaw : Prop :=
  ∀ (n : Nat) (e : Entry) (s : State), s.txq.queue = [e] → e.countdown = 1 → e.attempts = 0 →
    ∃ t, runOps (List.replicate n clearStick) s = .next t ∧
      (s.txq.linkGood = false →
        t.out = s.out ++ ((List.range n).flatMap fun k =>
          if k % 41 ∈ [0, 10, 20, 30] then [.tx e.bytes, .observe e.bytes, .txFlush] else []) ∧
        (0 < n → t.result = .stick false (decide (n % 41 = 0)))) ∧
      (s.txq.linkGood = true →
        t.out = s.out ++ ((List.range n).flatMap fun k =>
          if k % 10 = 0 then [.tx e.bytes, .observe e.bytes, .txFlush] else []) ∧
        (0 < n → t.result = .stick false false))

/-! ## Rules over all operations -/

/-- R37: `link_good` is cleared by RESET, and by nothing else; and it is set only by an operation that removes an entry as
RMMATCH does: RMMATCH itself, or a completion. -/
def Obligations.LinkGoodIsLatched : Prop :=
  (∀ s : State, ∃ t, exec .reset s = .next t ∧ t.txq.linkGood = false) ∧
  ∀ (i : Instr) (s t : State), exec i s = .next t → i ≠ .reset →
    (s.txq.linkGood = true → t.txq.linkGood = true) ∧
    (s.txq.linkGood = false → t.txq.linkGood = true →
      ((∃ b, i = .rmmatch b) ∨ (∃ d f, i = .rxbyte d f) ∨ i = .complete) ∧
        t.txq.queue.length + 1 = s.txq.queue.length)

/-- The result pair (1, 1) never occurs (the spec derives it); and once the link is proven no STICK gives up. That (1, 1) never
occurs rests on the busy bit 0 of the tick that gives up, which is "the spec's own" (44_txqueue.md; decision D31, U24) and which
the model follows (log entry 16). -/
def Obligations.GiveupExcludesBusyAndProvenLink : Prop :=
  ∀ (i : Instr) (s t : State), exec i s = .next t →
    t.result ≠ .stick true true ∧ (s.txq.linkGood = true → ∀ b, t.result ≠ .stick b true)

/-- Each group of the state is written only by the operations the spec names for it (and RESET); no operation touches the events
to come, and only the three cases without a stated result use a free value (the model's own fields: log entries 1, 17). -/
def Obligations.EachGroupIsWrittenByItsOwners : Prop :=
  ∀ (i : Instr) (s t : State), exec i s = .next t →
    t.inbox = s.inbox ∧ (t.freeCount ≠ s.freeCount → i = .frame [] ∨ i = .verify [] ∨ i = .ledreq none) ∧
    (t.rxc ≠ s.rxc → (∃ d f, i = .rxbyte d f) ∨ (∃ l, i = .dtick l) ∨ i = .accreset ∨ i = .complete ∨ i = .reset) ∧
    (t.txq ≠ s.txq → (∃ d f, i = .rxbyte d f) ∨ (∃ b y g p, i = .enq b y g p) ∨ (∃ a b c d, i = .stick a b c d) ∨
      (∃ b, i = .rmmatch b) ∨ (∃ g, i = .rmtag g) ∨ i = .discard ∨ i = .complete ∨ i = .reset) ∧
    (t.dev ≠ s.dev → (∃ d f, i = .rxbyte d f) ∨ (∃ l, i = .dtick l) ∨ i = .complete ∨ (∃ p, i = .dispatch p) ∨
      (∃ v b, i = .setsrc v b) ∨ (∃ p, i = .ledreq p) ∨ (∃ p r, i = reactionInstr p r) ∨ i = .reset)

/-- The output trace only grows, but for RESET, which empties it; only RXBYTE (ACC_OVERFLOW), DTICK and TXEMIT (TX), STICK
(TX, OBSERVE, TX_FLUSH) and ENQ (ENQ_REJECT) emit. -/
def Obligations.OutputTraceOnlyGrows : Prop :=
  ∀ (i : Instr) (s t : State), exec i s = .next t → i ≠ .reset → ∃ es, t.out = s.out ++ es ∧
    ∀ x ∈ es, match x with
      | .tx _ => (∃ l, i = .dtick l) ∨ (∃ b, i = .txemit b) ∨ (∃ a b c d, i = .stick a b c d)
      | .observe _ => ∃ a b c d, i = .stick a b c d
      | .txFlush => ∃ a b c d, i = .stick a b c d
      | .enqReject => ∃ b y g p, i = .enq b y g p
      | .accOverflow => ∃ d, i = .rxbyte d 0

/-- The two sources differ only while a reverse gear packet holds the camera (the spec derives it in R133): every operation
but a direct SETSRC keeps this. -/
def Obligations.SourcesDifferOnlyInReverse : Prop :=
  ∀ (i : Instr) (s t : State), exec i s = .next t → (∀ v b, i ≠ .setsrc v b) →
    (s.dev.videoSource = s.dev.savedSource ∨ s.dev.videoSource = .camera) →
      t.dev.videoSource = t.dev.savedSource ∨ t.dev.videoSource = .camera

/-- Every step from a state within the spec's bounds gives a state within them (10_state.md sections 2 to 4), with every
entry and every transmission framed. -/
def Obligations.StepKeepsTheBounds : Prop :=
  ∀ s t : State, s.Inv Config.pibus → step s = .next t → t.Inv Config.pibus

/-- The state after reset is within the bounds. -/
def Obligations.ResetIsWithinTheBounds : Prop := State.reset.Inv Config.pibus

/-- The block never halts: every operation completes; a step waits, completes, or refuses a frame that does not decode. The
refusal is the model's (log entry 2), and so is the completion of FRAME and VERIFY of no byte and LEDREQ of NONE (log entry 17)
and of DISPATCH and TXEMIT of sizes the spec does not name (log entry 11). -/
def Obligations.EveryOperationCompletes : Prop :=
  (∀ (i : Instr) (s : State), ∃ t, exec i s = .next t) ∧
  ∀ s : State, (∃ t, step s = .next t) ∨ ∃ r, step s = .refused (.undecodable r)

/-! ## Reset, levels, parameters -/

/-- RESET gives every element its reset value, empties the queue without a transmission, and starts the output trace empty. The
spec calls reset "the spec's own" (70_reset_and_hazards.md section 1; decision D37), and the model follows it (log entry 16).
The bytes of ACC are not claimed: the spec leaves them open (log entry 6). -/
def Obligations.ResetRestoresEveryElement : Prop :=
  ∀ s : State, ∃ t, exec .reset s = .next t ∧ t.rxc.cursor = 0 ∧ t.rxc.rxTimeout = 0 ∧
    t.dev = { videoSource := .bus, savedSource := .bus, ledReq := none, ledTimer := 0, ledClearPending := false
              idleCounter := 0, secDiv := 0, relayTimer := 0, holdArmed := false, holdTimer := 0, hbDiv := 0, hbLed := false } ∧
    t.txq = { queue := [], linkGood := false } ∧ t.out = []

/-- The level outputs are functions of the state (10_state.md section 3). After RESET all are 0 and the video lines are those of
BUS, which rests on the reset value BUS of decision D37 (log entry 16). The lines tell the three sources apart, because
VIDEO_LINES is injective (00_scope.md section 3). -/
def Obligations.LevelOutputsFollowTheState : Prop :=
  (∀ s : State,
    ((levels Config.pibus s).powerEnable = true ↔ 360 ≤ s.dev.idleCounter) ∧
    ((levels Config.pibus s).auxRelay = true ↔ 0 < s.dev.relayTimer) ∧ (levels Config.pibus s).hbLed = s.dev.hbLed ∧
    (levels Config.pibus s).video = Config.pibus.videoLines s.dev.videoSource) ∧
  (∀ s t : State, exec .reset s = .next t →
    levels Config.pibus t =
      { video := Config.pibus.videoLines .bus, hbLed := false, auxRelay := false, powerEnable := false }) ∧
  (∀ s t : State, (levels Config.pibus s).video = (levels Config.pibus t).video → s.dev.videoSource = t.dev.videoSource)

/-- What the model makes of an absent unit in four operations (00_scope.md section 2; decision D1; log entry 8): without DEV a DTICK
does its receive timeout only, and DISPATCH and a completion leave DEV alone; without TXQ RMMATCH and a completion remove
nothing. For every choice of the other parameters. Nothing is said of ENQ, STICK, RMTAG and DISCARD, which the model does not
make depend on the unit (log entry 8). -/
def Obligations.TickDispatchRemovalAndCompletionSkipAbsentUnits : Prop :=
  ∀ c : Params,
    (c.hasDev = false →
      (∀ (l : Bool) (s : State), deviceTick c l s = { s with rxc := timeoutStep s.rxc }) ∧
      (∀ (pkt : Packet) (d : Dev), dispatchPacket c pkt d = d) ∧ ∀ s : State, (completePacket c s).dev = s.dev) ∧
    (c.hasTxq = false → (∀ (b : Packet) (q : Txq), removeMatching c b q = q) ∧ ∀ s : State, (completePacket c s).txq = s.txq)

/-- R116: with RX_VERIFY_CHECKSUM a length-complete packet with a wrong checksum is dropped: only ACCRESET. Without it (this
hardware) the checksum makes no difference to what a completion does. For every choice of the other parameters. -/
def Obligations.ChecksumVerificationIsAParameter : Prop :=
  ∀ (c : Params) (s : State),
    (c.rxVerifyChecksum = true → verified (s.rxc.acc.take s.rxc.cursor) = false →
      completePacket c s = { s with rxc := { s.rxc with cursor := 0, rxTimeout := 0 } }) ∧
    (c.rxVerifyChecksum = true → verified (s.rxc.acc.take s.rxc.cursor) = true →
      completePacket c s = completePacket { c with rxVerifyChecksum := false } s) ∧
    (c.rxVerifyChecksum = false →
      completePacket c s =
        { s with
          rxc := { s.rxc with cursor := 0, rxTimeout := 0 }
          dev := completeDev c (s.rxc.acc.take s.rxc.cursor) s.dev
          txq := removeMatching c (s.rxc.acc.take s.rxc.cursor) s.txq })

/-! ## Decoding and the step -/

/-- The next frame, if it decodes, is performed as the operation it decodes to, in the state without that frame; the step
adds nothing else. With no frame the block waits; a frame that does not decode is refused with the decoder's reason. -/
def Obligations.StepRunsTheDecodedEvent : Prop :=
  ∀ s : State,
    (s.inbox = [] → step s = .next s) ∧
    ∀ (f : Frame) (rest : List Frame), s.inbox = f :: rest →
      (∀ i, decode Config.pibus f = .ok i → step s = exec i { s with inbox := rest }) ∧
      (∀ r, decode Config.pibus f = .error r → step s = .refused (.undecodable r))

/-- Decoding the frame of a well-formed operation gives it back, for every operation, operand value and parameter choice. -/
def Obligations.DecodeOfEncodeIsTheInstruction : Prop :=
  ∀ (c : Params) (i : Instr), i.wf c = true → decode c (encode i) = .ok i

/-- The other direction: a frame that decodes gives a well-formed operation whose frame it is, but for a packet frame that
selects no row: that is the DISPATCH of its packet (log entry 12). So no byte of a frame is dropped. -/
def Obligations.EncodeOfDecodeIsTheFrameUnlessNoRowMatches : Prop :=
  ∀ (c : Params) (f : Frame) (i : Instr), decode c f = .ok i →
    i.wf c = true ∧
      (encode i = f ∨ f.kind = .packet ∧ selectReaction c f.bytes = none ∧ i = .dispatch f.bytes)

/-- The identifiers 0x08 to 0x0F and 0x1A to 0x1F are unassigned: a step on an event that uses one is refused. -/
def Obligations.UnassignedIdentifiersAreRefused : Prop :=
  ∀ (b : Byte) (args : List Byte) (rest : List Frame) (s : State),
    (0x08 ≤ b.toNat ∧ b.toNat ≤ 0x0F) ∨ (0x1A ≤ b.toNat ∧ b.toNat ≤ 0x1F) →
    s.inbox = { kind := .operation, bytes := b :: args } :: rest → step s = .refused (.undecodable .unassignedIdentifier)

/-- Words written out from the table's identifiers and from the CYCLE packet decode to what they stand for. -/
def Obligations.WrittenWordsDecode : Prop :=
  decode Config.pibus { kind := .operation, bytes := [0x00, 0xC8, 0x02] } = .ok (.rxbyte 0xC8 2) ∧
  decode Config.pibus { kind := .operation, bytes := [0x02, 1, 1, 1, 0] } = .ok (.stick true true true false) ∧
  decode Config.pibus { kind := .operation, bytes := [0x03, 1, 0x07, 0, 0x68, 0x03, 0x18, 0x01, 0x00] } =
    .ok (.enq [0x68, 0x03, 0x18, 0x01, 0x00] true 0x07 false) ∧
  decode Config.pibus { kind := .operation, bytes := [0x17, 2, 1] } = .ok (.setsrc .camera true) ∧
  decode Config.pibus { kind := .packet, bytes := [0xF0, 0x04, 0xFF, 0x48, 0x08, 0x4B] } =
    .ok (.cycle [0xF0, 0x04, 0xFF, 0x48, 0x08, 0x4B])

/-! ## Operands for which the spec states no result -/

/-- FRAME and VERIFY of no byte and LEDREQ of the code NONE complete: one value is free, and every other effect is the
operation's. The model's choice (log entry 17): the spec states no result for these operands, and nothing is said here of the
free values. -/
def Obligations.UnstatedResultsAreFreeValues : Prop :=
  ∀ s : State,
    (∃ r : Packet, exec (.frame []) s = .next { s with result := .bytes r, freeCount := s.freeCount + 1 }) ∧
    (∃ v : Bool, exec (.verify []) s = .next { s with result := .bool v, freeCount := s.freeCount + 1 }) ∧
    ∃ r : Option LedPattern,
      exec (.ledreq none) s = .next
        { s with
          dev := { s.dev with ledReq := r, ledTimer := Config.pibus.ledDisplayTicks, ledClearPending := false }
          result := .nothing
          freeCount := s.freeCount + 1 }

/-- Byte data never ends a run: a step gives a next state on an RXBYTE of any data byte and any fault bits, an ENQ of any tag and
bytes with each value of its two bits, an RMTAG or XSIZE of any byte, an RMMATCH, CHK, FRAME, VERIFY, DISPATCH or TXEMIT of any
bytes, none among them, a LEDREQ of any of its five codes, and on any packet. The model's choice where the spec names no such
size or code (log entries 11, 12, 17), on frames whose layout is the model's (log entry 2). -/
def Obligations.ByteSequencesAreNeverRefused : Prop :=
  ∀ (f : Frame) (rest : List Frame) (s : State), s.inbox = f :: rest →
    f.kind = .packet ∨
      (∃ d fault : Byte, fault.toNat < 8 ∧ f.bytes = [0x00, d, fault]) ∨
      (∃ (sync tag prepend : Byte) (args : List Byte), sync.toNat < 2 ∧ prepend.toNat < 2 ∧
        f.bytes = 0x03 :: sync :: tag :: prepend :: args) ∨
      (∃ x : Byte, f.bytes = [0x05, x] ∨ f.bytes = [0x11, x]) ∨
      (∃ (b : Byte) (args : List Byte), b ∈ ([0x04, 0x10, 0x12, 0x13, 0x16, 0x19] : List Byte) ∧ f.bytes = b :: args) ∨
      (∃ code : Byte, code.toNat < 5 ∧ f.bytes = [0x18, code]) →
    ∃ t, step s = .next t
end

