-- ==== Sys2Proof/Laws/Config.lean ====
section
/-! SUPPORT. The parameter values of this hardware, and that they satisfy everything the spec says of parameters. -/

namespace Sys2Proof.Config

open Sys2Proof

@[simp] theorem pibus_hasDev : pibus.hasDev = true := rfl
@[simp] theorem pibus_hasTxq : pibus.hasTxq = true := rfl
@[simp] theorem pibus_accCapacity : pibus.accCapacity = 32 := rfl
@[simp] theorem pibus_rxTimeoutTicks : pibus.rxTimeoutTicks = 1 := rfl
@[simp] theorem pibus_rxVerifyChecksum : pibus.rxVerifyChecksum = false := rfl
@[simp] theorem pibus_minCompleteSize : pibus.minCompleteSize = 5 := rfl
@[simp] theorem pibus_ticksPerSecond : pibus.ticksPerSecond = 150 := rfl
@[simp] theorem pibus_idleThreshold : pibus.idleThreshold = 360 := rfl
@[simp] theorem pibus_initialDelay : pibus.initialDelay = 1 := rfl
@[simp] theorem pibus_resendWindow : pibus.resendWindow = 10 := rfl
@[simp] theorem pibus_retryLimit : pibus.retryLimit = 3 := rfl
@[simp] theorem pibus_maxPacketSize : pibus.maxPacketSize = 32 := rfl
@[simp] theorem pibus_patCycle : pibus.patCycle = patCycle := rfl
@[simp] theorem pibus_extraReactions : pibus.extraReactions = [] := rfl

theorem pibus_ledDisplayTicks_pos : 0 < pibus.ledDisplayTicks := ledDisplayTicks.pos
theorem pibus_relayPulseTicks_pos : 0 < pibus.relayPulseTicks := relayPulseTicks.pos
theorem pibus_holdTicks_pos : 0 < pibus.holdTicks := holdTicks.pos
theorem pibus_hbHalfFast_pos : 0 < pibus.hbHalfFast := hbHalfFast.pos
theorem pibus_hbHalfSlow_pos : 0 < pibus.hbHalfSlow := hbHalfSlow.pos
theorem pibus_queueCapacity_pos : 0 < pibus.queueCapacity := queueCapacity.pos

/-- The three video sources have three different line triples (00_scope.md R7). -/
theorem videoLines_injective : Function.Injective videoLines := by
  intro v w h
  simp only [videoLines, VideoLines.mk.injEq] at h
  have hp : ∀ a b : Bool × Bool × Bool, a.1 = b.1 → a.2.1 = b.2.1 → a.2.2 = b.2.2 → a = b := by
    rintro ⟨a, b, c⟩ ⟨a', b', c'⟩ h1 h2 h3
    simp_all
  have := videoPermutation.injective (hp _ _ h.1 h.2.1 h.2.2)
  cases v <;> cases w <;> simp_all

theorem padCells_length (n : Nat) (cells : List (Byte × Byte)) : n ≤ (padCells n cells).length := by
  simp [padCells]
  omega

/-- A pattern made of at least four cells is well-formed (30_encoding.md R76). -/
theorem patternOf_wf (cells : List (Byte × Byte)) (h : 4 ≤ cells.length) : (patternOf cells).wf := by
  simp [patternOf, Pattern.wf]
  omega

/-- Masking one byte of a well-formed pattern's mask keeps it well-formed. -/
theorem Pattern.wf_modify (p : Pattern) (i : Nat) (f : Byte → Byte) (h : p.wf) :
    Pattern.wf { p with mask := p.mask.modify i f } := by
  simpa [Pattern.wf] using h

theorem getD_modify (l : List Byte) (i : Nat) (f : Byte → Byte) (h : i < l.length) :
    (l.modify i f).getD i 0 = f (l.getD i 0) := by
  simp [List.getD_eq_getElem?_getD, h]

/-- The parameters of this hardware satisfy what the spec says of parameters, given and OPEN. -/
theorem pibus_wf : pibus.wf where
  acc_capacity := by decide
  rx_timeout := by decide
  ticks_per_second := by decide
  idle_threshold := by decide
  led_display := pibus_ledDisplayTicks_pos
  relay_pulse := pibus_relayPulseTicks_pos
  hold_ticks := pibus_holdTicks_pos
  hb_fast := pibus_hbHalfFast_pos
  hb_slow := pibus_hbHalfSlow_pos
  video_injective := videoLines_injective
  max_packet := by decide
  queue_capacity := pibus_queueCapacity_pos
  cycle := by simp [patCycle, Pattern.wf]
  gear := Pattern.wf_modify _ _ _ (patternOf_wf _ (by have := padCells_length 5 gearCells; omega))
  gear_size := by
    have := padCells_length 5 gearCells
    simp only [pibus, patGear, patternOf]
    omega
  gear_mask := by
    have h := padCells_length 5 gearCells
    have hl : 4 < ((padCells 5 gearCells).map Prod.snd).length := by simp; omega
    simp only [pibus, patGear, patternOf]
    rw [getD_modify _ _ _ hl, BitVec.and_assoc]
    simp
  fob := Pattern.wf_modify _ _ _ (patternOf_wf _ (padCells_length 4 fobCells))
  fob_idx := by
    have := padCells_length 4 fobCells
    simp only [pibus, patFob, fobIdx]
    exact Nat.mod_lt _ (by simp only [patFobRaw, patternOf]; omega)
  fob_val := by
    simp only [pibus]
    ext i
    simp
  fob_mask := by
    have h := padCells_length 4 fobCells
    have hl : fobIdx < patFobRaw.mask.length := by
      have : fobIdx < patFobRaw.size - 1 := Nat.mod_lt _ (by simp only [patFobRaw, patternOf]; omega)
      simpa [patFobRaw, patternOf] using this
    simp only [pibus, patFob]
    rw [getD_modify _ _ _ hl]
    ext i
    simp
  cdc_enter := patternOf_wf _ (by have := padCells_length 19 cdcEnterCells; simp; omega)
  cdc_enter_size := by
    have := padCells_length 19 cdcEnterCells
    simp only [pibus, patternOf, List.length_take]
    omega
  cdc_exit_btn := patternOf_wf _ (padCells_length 4 _)
  cdc_exit_menu := patternOf_wf _ (padCells_length 4 _)
  led_body_size := by
    intro m
    simp [pibus, ledBody]
    omega
  led_body_length := by
    intro m
    simp [pibus, ledBody]
    omega

end Sys2Proof.Config
end

