-- ==== Sys2Proof/Laws/State.lean ====
section
/-! SUPPORT. One lemma per field per update of State, each true by rfl, and what raising a condition does. -/

namespace Sys2Proof.Machine

variable (s : State)

@[simp] theorem State.setRxc_rxc (r : Rxc) : (s.setRxc r).rxc = r := rfl
@[simp] theorem State.setRxc_dev (r : Rxc) : (s.setRxc r).dev = s.dev := rfl
@[simp] theorem State.setRxc_txq (r : Rxc) : (s.setRxc r).txq = s.txq := rfl
@[simp] theorem State.setRxc_out (r : Rxc) : (s.setRxc r).out = s.out := rfl
@[simp] theorem State.setRxc_result (r : Rxc) : (s.setRxc r).result = s.result := rfl
@[simp] theorem State.setRxc_inbox (r : Rxc) : (s.setRxc r).inbox = s.inbox := rfl
@[simp] theorem State.setRxc_freeCount (r : Rxc) : (s.setRxc r).freeCount = s.freeCount := rfl

@[simp] theorem State.setDev_rxc (d : Dev) : (s.setDev d).rxc = s.rxc := rfl
@[simp] theorem State.setDev_dev (d : Dev) : (s.setDev d).dev = d := rfl
@[simp] theorem State.setDev_txq (d : Dev) : (s.setDev d).txq = s.txq := rfl
@[simp] theorem State.setDev_out (d : Dev) : (s.setDev d).out = s.out := rfl
@[simp] theorem State.setDev_result (d : Dev) : (s.setDev d).result = s.result := rfl
@[simp] theorem State.setDev_inbox (d : Dev) : (s.setDev d).inbox = s.inbox := rfl
@[simp] theorem State.setDev_freeCount (d : Dev) : (s.setDev d).freeCount = s.freeCount := rfl

@[simp] theorem State.setTxq_rxc (q : Txq) : (s.setTxq q).rxc = s.rxc := rfl
@[simp] theorem State.setTxq_dev (q : Txq) : (s.setTxq q).dev = s.dev := rfl
@[simp] theorem State.setTxq_txq (q : Txq) : (s.setTxq q).txq = q := rfl
@[simp] theorem State.setTxq_out (q : Txq) : (s.setTxq q).out = s.out := rfl
@[simp] theorem State.setTxq_result (q : Txq) : (s.setTxq q).result = s.result := rfl
@[simp] theorem State.setTxq_inbox (q : Txq) : (s.setTxq q).inbox = s.inbox := rfl
@[simp] theorem State.setTxq_freeCount (q : Txq) : (s.setTxq q).freeCount = s.freeCount := rfl

@[simp] theorem State.emit_rxc (es : List OutEvent) : (s.emit es).rxc = s.rxc := rfl
@[simp] theorem State.emit_dev (es : List OutEvent) : (s.emit es).dev = s.dev := rfl
@[simp] theorem State.emit_txq (es : List OutEvent) : (s.emit es).txq = s.txq := rfl
@[simp] theorem State.emit_out (es : List OutEvent) : (s.emit es).out = s.out ++ es := rfl
@[simp] theorem State.emit_result (es : List OutEvent) : (s.emit es).result = s.result := rfl
@[simp] theorem State.emit_inbox (es : List OutEvent) : (s.emit es).inbox = s.inbox := rfl
@[simp] theorem State.emit_freeCount (es : List OutEvent) : (s.emit es).freeCount = s.freeCount := rfl

@[simp] theorem State.answer_rxc (a : Result) : (s.answer a).rxc = s.rxc := rfl
@[simp] theorem State.answer_dev (a : Result) : (s.answer a).dev = s.dev := rfl
@[simp] theorem State.answer_txq (a : Result) : (s.answer a).txq = s.txq := rfl
@[simp] theorem State.answer_out (a : Result) : (s.answer a).out = s.out := rfl
@[simp] theorem State.answer_result (a : Result) : (s.answer a).result = a := rfl
@[simp] theorem State.answer_inbox (a : Result) : (s.answer a).inbox = s.inbox := rfl
@[simp] theorem State.answer_freeCount (a : Result) : (s.answer a).freeCount = s.freeCount := rfl

@[simp] theorem State.present_rxc (f : Frame) : (s.present f).rxc = s.rxc := rfl
@[simp] theorem State.present_dev (f : Frame) : (s.present f).dev = s.dev := rfl
@[simp] theorem State.present_txq (f : Frame) : (s.present f).txq = s.txq := rfl
@[simp] theorem State.present_out (f : Frame) : (s.present f).out = s.out := rfl
@[simp] theorem State.present_result (f : Frame) : (s.present f).result = s.result := rfl
@[simp] theorem State.present_inbox (f : Frame) : (s.present f).inbox = f :: s.inbox := rfl
@[simp] theorem State.present_freeCount (f : Frame) : (s.present f).freeCount = s.freeCount := rfl

@[simp] theorem State.useFree_rxc : s.useFree.rxc = s.rxc := rfl
@[simp] theorem State.useFree_dev : s.useFree.dev = s.dev := rfl
@[simp] theorem State.useFree_txq : s.useFree.txq = s.txq := rfl
@[simp] theorem State.useFree_out : s.useFree.out = s.out := rfl
@[simp] theorem State.useFree_result : s.useFree.result = s.result := rfl
@[simp] theorem State.useFree_inbox : s.useFree.inbox = s.inbox := rfl
@[simp] theorem State.useFree_freeCount : s.useFree.freeCount = s.freeCount + 1 := rfl

@[simp] theorem State.raise_transportFault : s.raise .transportFault = s := rfl
@[simp] theorem State.raise_accumulatorFull : s.raise .accumulatorFull = s.emit [.accOverflow] := rfl
@[simp] theorem State.raise_enqueueRefused : s.raise .enqueueRefused = s.emit [.enqReject] := rfl
@[simp] theorem State.raise_checksumMismatch : s.raise .checksumMismatch = s.setRxc (accReset s.rxc) := rfl

/-- Raising X3 resets the attempts of the entry at the index and touches nothing else. -/
theorem State.raise_giveUp (i : Nat) :
    s.raise (.giveUp i) = s.setTxq { s.txq with queue := s.txq.queue.modify i fun e => { e with attempts := 0 } } := rfl

@[simp] theorem takeFrame_nil (h : s.inbox = []) : takeFrame s = none := by simp [takeFrame, h]

theorem takeFrame_cons (f : Frame) (rest : List Frame) (h : s.inbox = f :: rest) :
    takeFrame s = some (f, { s with inbox := rest }) := by simp [takeFrame, h]

@[simp] theorem takeFrame_present (f : Frame) : takeFrame (s.present f) = some (f, s) := rfl

end Sys2Proof.Machine
end

