-- ==== Sys2Proof/Laws/Decode.lean ====
section
/-! SUPPORT. The fields of a frame, read and written: each reader undoes its writer, and conversely. -/

namespace Sys2Proof

open Sys2Proof.Machine

@[simp] theorem opcodeOf_codeByte (o : Opcode) : opcodeOf (codeByte (opcodeId o)).toNat = some o := by
  cases o <;> decide

theorem opcodeId_of_opcodeOf (n : Nat) (o : Opcode) (h : opcodeOf n = some o) : opcodeId o = n := by
  have := List.find?_some h
  simpa using this

@[simp] theorem readBit_bitByte (b : Bool) : readBit (bitByte b) = some b := by cases b <;> decide

theorem bitByte_of_readBit (x : Byte) (b : Bool) (h : readBit x = some b) : bitByte b = x := by
  unfold readBit at h
  split at h
  · cases h; simp_all [bitByte]
  · split at h
    · cases h; simp_all [bitByte]
    · cases h

@[simp] theorem readFault_setWidth (f : BitVec 3) : readFault (f.setWidth 8) = some f := by
  have h : (f.setWidth 8).toNat < 8 := by
    have := f.isLt
    simp
    omega
  simp only [readFault, if_pos h, Option.some.injEq]
  ext i
  simp

theorem setWidth_of_readFault (x : Byte) (f : BitVec 3) (h : readFault x = some f) : f.setWidth 8 = x := by
  unfold readFault at h
  split at h
  · cases h
    apply BitVec.eq_of_toNat_eq
    simp
    omega
  · cases h

@[simp] theorem readSource_code (v : VideoSource) : readSource (codeByte v.code) = some v := by cases v <;> decide

theorem code_of_readSource (x : Byte) (v : VideoSource) (h : readSource x = some v) : codeByte v.code = x := by
  have := List.find?_some h
  apply BitVec.eq_of_toNat_eq
  simp only [beq_iff_eq] at this
  rw [codeByte, this]
  simp

@[simp] theorem readLedReq_code (r : Option LedPattern) : readLedReq (codeByte (ledReqCode r)) = some r := by
  cases r with
  | none => decide
  | some p => cases p <;> decide

theorem code_of_readLedReq (x : Byte) (r : Option LedPattern) (h : readLedReq x = some r) : codeByte (ledReqCode r) = x := by
  have := List.find?_some h
  apply BitVec.eq_of_toNat_eq
  simp only [beq_iff_eq] at this
  rw [codeByte, this]
  simp

/-- The code of a pattern's message is the code `led_req` has for it (30_encoding.md R80). -/
@[simp] theorem LedMessage.code_pattern (p : LedPattern) : (LedMessage.pattern p).code = ledReqCode (some p) := rfl

/-- No value of `led_req` has the code of CLEAR (30_encoding.md R80). -/
theorem ledReqCode_ne_clear (r : Option LedPattern) : ledReqCode r ≠ LedMessage.clear.code := by
  cases r with
  | none => decide
  | some p => cases p <;> decide

/-- Two LED messages never have the same code (30_encoding.md R80). -/
theorem LedMessage.code_injective : Function.Injective LedMessage.code := by
  rintro (p | _) (q | _) h
  · cases p <;> cases q <;> first | rfl | exact absurd h (by decide)
  · exact absurd h (by cases p <;> decide)
  · exact absurd h (by cases q <;> decide)
  · rfl

/-- The identifiers of two operations are never equal (30_encoding.md R74). -/
theorem opcodeId_injective : Function.Injective opcodeId := by
  intro a b h
  revert h
  cases a <;> cases b <;> decide

end Sys2Proof
end

