-- ==== Sys2Proof/Laws/Framing.lean ====
section
/-! SUPPORT. The framing functions (40_framing.md). -/

namespace Sys2Proof.Machine

open Sys2Proof

@[simp] theorem checksum_nil : checksum [] = 0 := rfl
@[simp] theorem checksum_cons (x : Byte) (b : Packet) : checksum (x :: b) = x ^^^ checksum b := rfl

@[simp] theorem checksum_append (a b : Packet) : checksum (a ++ b) = checksum a ^^^ checksum b := by
  induction a with
  | nil => simp
  | cons x a ih => simp [ih, BitVec.xor_assoc]

@[simp] theorem framed_ne_nil (b : Packet) : framed b ≠ [] := by simp [framed]

@[simp] theorem framed_concat (b : Packet) (x : Byte) : framed (b ++ [x]) = b ++ [checksum b] := by simp [framed]

theorem framed_length (b : Packet) (h : b ≠ []) : (framed b).length = b.length := by
  have := List.length_pos_of_ne_nil h
  simp [framed]
  omega

@[simp] theorem verified_concat (b : Packet) (x : Byte) : verified (b ++ [x]) = (x == checksum b) := by simp [verified]

/-- Whatever FRAME makes is accepted by VERIFY (40_framing.md R104). -/
@[simp] theorem verified_framed (b : Packet) : verified (framed b) = true := by simp [framed]

/-- VERIFY is CHK of all bytes being 00 (40_framing.md R103). -/
theorem verified_iff_checksum_zero (p : Packet) (h : p ≠ []) : verified p = true ↔ checksum p = 0 := by
  obtain ⟨b, x, rfl⟩ := List.eq_nil_or_concat p |>.resolve_left h
  rw [List.concat_eq_append, verified_concat, checksum_append, checksum_cons, checksum_nil, beq_iff_eq]
  simp only [BitVec.ofNat_eq_ofNat, BitVec.xor_zero, BitVec.xor_eq_zero_iff]
  exact eq_comm

/-- FRAME only answers; of no byte it may also use a free value (40_framing.md R102, notes/assumptions/17). -/
theorem execFrame_cases (b : Packet) (s : State) : ∃ (r : Packet) (n : Nat),
    execFrame b s = .next { s with result := .bytes r, freeCount := n } ∧ (b ≠ [] → r = framed b ∧ n = s.freeCount) := by
  cases b with
  | nil => exact ⟨_, _, rfl, fun h => absurd rfl h⟩
  | cons x rest => exact ⟨_, _, rfl, fun _ => ⟨rfl, rfl⟩⟩

/-- VERIFY only answers; of no byte it may also use a free value (40_framing.md R103, notes/assumptions/17). -/
theorem execVerify_cases (p : Packet) (s : State) : ∃ (v : Bool) (n : Nat),
    execVerify p s = .next { s with result := .bool v, freeCount := n } ∧ (p ≠ [] → v = verified p ∧ n = s.freeCount) := by
  cases p with
  | nil => exact ⟨_, _, rfl, fun h => absurd rfl h⟩
  | cons x rest => exact ⟨_, _, rfl, fun _ => ⟨rfl, rfl⟩⟩

/-- FRAME of at least one byte answers the framed bytes (40_framing.md R102). -/
theorem execFrame_of_ne_nil (b : Packet) (s : State) (h : b ≠ []) : execFrame b s = .next (s.answer (.bytes (framed b))) := by
  obtain ⟨_, _, e, hr⟩ := execFrame_cases b s
  obtain ⟨rfl, rfl⟩ := hr h
  exact e

/-- VERIFY of at least one byte answers whether it carries its checksum (40_framing.md R103). -/
theorem execVerify_of_ne_nil (p : Packet) (s : State) (h : p ≠ []) : execVerify p s = .next (s.answer (.bool (verified p))) := by
  obtain ⟨_, _, e, hr⟩ := execVerify_cases p s
  obtain ⟨rfl, rfl⟩ := hr h
  exact e

end Sys2Proof.Machine
end

