-- ==== Sys2Proof/Laws/PerInstr.lean ====
section
/-! SUPPORT. Facts of every operation as syntax, one lemma per constructor: the frame of an operation has its identifier first,
the frame of a reaction is the packet it carries. -/

namespace Sys2Proof.Laws.FrameShape

open Sys2Proof

/-- The shape of an operation's frame (30_encoding.md R74, R77). -/
def Statement (i : Instr) : Prop :=
  (∃ o args, encode i = opFrame o args) ∨ ∃ pkt r, i = reactionInstr pkt r ∧ encode i = pktFrame pkt

theorem rxbyte (d : Byte) (f : BitVec 3) : Statement (.rxbyte d f) := .inl ⟨.rxbyte, _, rfl⟩
theorem dtick (l : Bool) : Statement (.dtick l) := .inl ⟨.dtick, _, rfl⟩
theorem stick (a b c d : Bool) : Statement (.stick a b c d) := .inl ⟨.stick, _, rfl⟩
theorem enq (b : Packet) (y : Bool) (g : Tag) (p : Bool) : Statement (.enq b y g p) := .inl ⟨.enq, _, rfl⟩
theorem rmmatch (b : Packet) : Statement (.rmmatch b) := .inl ⟨.rmmatch, _, rfl⟩
theorem rmtag (g : Tag) : Statement (.rmtag g) := .inl ⟨.rmtag, _, rfl⟩
theorem discard : Statement (.discard) := .inl ⟨.discard, _, rfl⟩
theorem reset : Statement (.reset) := .inl ⟨.reset, _, rfl⟩
theorem chk (b : Packet) : Statement (.chk b) := .inl ⟨.chk, _, rfl⟩
theorem xsize (n : Byte) : Statement (.xsize n) := .inl ⟨.xsize, _, rfl⟩
theorem frame (b : Packet) : Statement (.frame b) := .inl ⟨.frame, _, rfl⟩
theorem verify (b : Packet) : Statement (.verify b) := .inl ⟨.verify, _, rfl⟩
theorem accreset : Statement (.accreset) := .inl ⟨.accreset, _, rfl⟩
theorem complete : Statement (.complete) := .inl ⟨.complete, _, rfl⟩
theorem dispatch (p : Packet) : Statement (.dispatch p) := .inl ⟨.dispatch, _, rfl⟩
theorem setsrc (v : VideoSource) (b : Bool) : Statement (.setsrc v b) := .inl ⟨.setsrc, _, rfl⟩
theorem ledreq (p : Option LedPattern) : Statement (.ledreq p) := .inl ⟨.ledreq, _, rfl⟩
theorem txemit (b : Packet) : Statement (.txemit b) := .inl ⟨.txemit, _, rfl⟩
theorem cycle (p : Packet) : Statement (.cycle p) := .inr ⟨p, .cycle, rfl, rfl⟩
theorem gear (p : Packet) : Statement (.gear p) := .inr ⟨p, .gear, rfl, rfl⟩
theorem fob (p : Packet) : Statement (.fob p) := .inr ⟨p, .fob, rfl, rfl⟩
theorem cdcEnter (p : Packet) : Statement (.cdcEnter p) := .inr ⟨p, .cdcEnter, rfl, rfl⟩
theorem cdcExitBtn (p : Packet) : Statement (.cdcExitBtn p) := .inr ⟨p, .cdcExitBtn, rfl, rfl⟩
theorem cdcExitMenu (p : Packet) : Statement (.cdcExitMenu p) := .inr ⟨p, .cdcExitMenu, rfl, rfl⟩

end Sys2Proof.Laws.FrameShape
end

