-- ==== Sys2Proof/Laws/Reactions.lean ====
section
/-! SUPPORT. What SETSRC, LEDREQ, the reactions and DISPATCH write: one lemma per operation (42_reactions.md). -/

namespace Sys2Proof.Machine

open Sys2Proof

/-- SETSRC writes the two sources and nothing else. -/
theorem setSource_eq (v : VideoSource) (save : Bool) (d : Dev) :
    setSource v save d = { d with videoSource := v, savedSource := if save then v else d.savedSource } := rfl

/-- LEDREQ writes the three LED elements and nothing else. -/
theorem loadLed_eq (c : Params) (r : Option LedPattern) (d : Dev) :
    loadLed c r d = { d with ledReq := r, ledTimer := c.ledDisplayTicks, ledClearPending := false } := rfl

/-- LEDREQ of a pattern. -/
theorem requestLed_eq (c : Params) (p : LedPattern) (d : Dev) :
    requestLed c p d = { d with ledReq := some p, ledTimer := c.ledDisplayTicks, ledClearPending := false } := rfl

/-- LEDREQ writes the three LED elements; for the code NONE it also uses a free value (42_reactions.md R140,
notes/assumptions/17). -/
theorem execLedreq_cases (code : Option LedPattern) (s : State) : ∃ (r : Option LedPattern) (n : Nat),
    execLedreq code s = .next { s with dev := loadLed Config.pibus r s.dev, result := .nothing, freeCount := n } ∧
      (∀ p, code = some p → r = some p ∧ n = s.freeCount) := by
  cases code with
  | none => exact ⟨_, _, rfl, nofun⟩
  | some p => exact ⟨_, _, rfl, fun q h => ⟨h, rfl⟩⟩

/-- The DEV elements no reaction writes (42_reactions.md: each rule's write set). -/
theorem react_frame (c : Params) (pkt : Packet) (d : Dev) (r : Reaction) :
    (react c pkt d r).idleCounter = d.idleCounter ∧ (react c pkt d r).secDiv = d.secDiv ∧
      (react c pkt d r).hbDiv = d.hbDiv ∧ (react c pkt d r).hbLed = d.hbLed := by
  cases r <;> simp only [react, reactCycle, reactGear, reactFob, reactCdcEnter, reactCdcExitBtn, reactCdcExitMenu]
  all_goals (repeat' split) <;> simp [setSource, requestLed_eq]

/-- DISPATCH on this hardware fires the selected row or does nothing (42_reactions.md R130, R138). -/
theorem dispatchPacket_pibus (pkt : Packet) (d : Dev) :
    dispatchPacket Config.pibus pkt d =
      match selectReaction Config.pibus pkt with
      | some r => react Config.pibus pkt d r
      | none => d := by
  rw [dispatchPacket, if_pos Config.pibus_hasDev]
  cases selectReaction Config.pibus pkt <;> rfl

/-- The selected row, as the chain of tests of 42_reactions.md R130. -/
theorem selectReaction_eq (c : Params) (pkt : Packet) :
    selectReaction c pkt =
      if patMatches c.patCycle pkt then some .cycle
      else if patMatches c.patGear pkt then some .gear
      else if patMatches c.patFob pkt then some .fob
      else if patMatches c.patCdcEnter pkt then some .cdcEnter
      else if patMatches c.patCdcExitBtn pkt then some .cdcExitBtn
      else if patMatches c.patCdcExitMenu pkt then some .cdcExitMenu
      else none := by
  simp only [selectReaction, reactionTable, List.find?]
  repeat' split
  all_goals simp_all

/-- A matching packet has the pattern's size (30_encoding.md R76). -/
theorem patMatches_length (pat : Pattern) (pkt : Packet) (h : patMatches pat pkt = true) : pkt.length = pat.size := by
  simp only [patMatches, Bool.and_eq_true, beq_iff_eq] at h
  exact h.1

end Sys2Proof.Machine
end

