-- ==== Sys2Proof/Laws/Receive.lean ====
section
/-! SUPPORT. What a byte arrival, a completion and the timeout step can do (41_receive.md). -/

namespace Sys2Proof.Machine

open Sys2Proof

@[simp] theorem accReset_acc (r : Rxc) : (accReset r).acc = r.acc := rfl
@[simp] theorem accReset_cursor (r : Rxc) : (accReset r).cursor = 0 := rfl
@[simp] theorem accReset_rxTimeout (r : Rxc) : (accReset r).rxTimeout = 0 := rfl
@[simp] theorem accReset_accReset (r : Rxc) : accReset (accReset r) = accReset r := rfl

@[simp] theorem storeByte_acc (r : Rxc) (d : Byte) : (storeByte r d).acc = r.acc.set r.cursor d := rfl
@[simp] theorem storeByte_cursor (r : Rxc) (d : Byte) : (storeByte r d).cursor = r.cursor + 1 := rfl
@[simp] theorem storeByte_rxTimeout (r : Rxc) (d : Byte) : (storeByte r d).rxTimeout = r.rxTimeout := rfl

theorem accumulated_eq (r : Rxc) : accumulated r = r.acc.take r.cursor := by simp [accumulated, memRead]

/-- The completion test of this hardware (41_receive.md R114). -/
theorem isComplete_pibus (r : Rxc) :
    isComplete Config.pibus r = true ↔ 5 ≤ r.cursor ∧ (r.acc.getD 1 0).toNat + 2 = r.cursor := by
  simp only [isComplete, Bool.and_eq_true, decide_eq_true_eq, beq_iff_eq]
  rfl

/-- COMPLETE on this hardware (41_receive.md R115). -/
theorem completePacket_pibus (s : State) :
    completePacket Config.pibus s =
      { s with
        rxc := accReset s.rxc
        dev := { dispatchPacket Config.pibus (accumulated s.rxc) s.dev with idleCounter := 0, secDiv := 0 }
        txq := removeMatching Config.pibus (accumulated s.rxc) s.txq } := by
  simp [completePacket, completeDev, State.setRxc, State.setDev, State.setTxq]

/-- A byte arrival has one of four outcomes: faulty, dropped, stored, completing (41_receive.md R110). -/
theorem receiveByte_cases (d : Byte) (f : BitVec 3) (s : State) :
    (f ≠ 0 ∧ receiveByte Config.pibus d f s = s) ∨
    (f = 0 ∧ s.rxc.cursor = 32 ∧ receiveByte Config.pibus d f s = s.emit [.accOverflow]) ∨
    (f = 0 ∧ s.rxc.cursor ≠ 32 ∧ isComplete Config.pibus (storeByte s.rxc d) = true ∧
      receiveByte Config.pibus d f s = completePacket Config.pibus (s.setRxc (storeByte s.rxc d))) ∨
    (f = 0 ∧ s.rxc.cursor ≠ 32 ∧ isComplete Config.pibus (storeByte s.rxc d) = false ∧
      receiveByte Config.pibus d f s = s.setRxc { storeByte s.rxc d with rxTimeout := 1 }) := by
  unfold receiveByte
  by_cases hf : f = 0
  · by_cases hc : s.rxc.cursor = 32
    · simp [hf, hc]
    · by_cases hk : isComplete Config.pibus (storeByte s.rxc d) = true
      · simp [hf, hc, hk]
      · simp [hf, hc, hk]
  · exact .inl ⟨hf, by rw [if_pos hf]; rfl⟩

/-- The timeout step resets the accumulator or only counts (41_receive.md R118). -/
theorem timeoutStep_cases (r : Rxc) :
    (r.rxTimeout ≤ 1 ∧ timeoutStep r = accReset r) ∨
      (1 < r.rxTimeout ∧ timeoutStep r = { r with rxTimeout := r.rxTimeout - 1 }) := by
  unfold timeoutStep dec0
  by_cases h : r.rxTimeout ≤ 1
  · exact .inl ⟨h, by simp; omega⟩
  · exact .inr ⟨by omega, by simp; omega⟩

end Sys2Proof.Machine
end

