-- ==== Sys2Proof/Laws/Run.lean ====
section
/-! SUPPORT. Runs of operations (70_reset_and_hazards.md R244) and packets as events (30_encoding.md R84). -/

namespace Sys2Proof.Machine

open Sys2Proof

@[simp] theorem runOps_nil (s : State) : runOps [] s = .next s := rfl

theorem runOps_cons (i : Instr) (is : List Instr) (s t : State) (h : exec i s = .next t) :
    runOps (i :: is) s = runOps is t := by
  simp [runOps, h]

/-- A run of two parts is the second part run from the end of the first. -/
theorem runOps_append (a b : List Instr) (s t : State) (h : runOps a s = .next t) : runOps (a ++ b) s = runOps b t := by
  induction a generalizing s with
  | nil => cases h; rfl
  | cons i a ih =>
    simp only [runOps, List.cons_append] at h ⊢
    cases he : exec i s with
    | next u => rw [he] at h; exact ih u h
    | fault r => rw [he] at h; cases h
    | refused r => rw [he] at h; cases h

@[simp] theorem rxpkt_nil : rxpkt [] = [] := rfl
@[simp] theorem rxpkt_cons (b : Byte) (p : Packet) : rxpkt (b :: p) = .rxbyte b 0 :: rxpkt p := rfl

theorem rxpkt_append (a b : Packet) : rxpkt (a ++ b) = rxpkt a ++ rxpkt b := by simp [rxpkt]

@[simp] theorem dticks_nil : dticks [] = 0 := rfl

theorem dticks_cons (i : Instr) (is : List Instr) :
    dticks (i :: is) = dticks is + if (∃ l, i = .dtick l) then 1 else 0 := by
  cases i <;> simp [dticks]

/-- Ticks alone are a quiet run from any state (43_tick.md R159). -/
theorem quietRun_dticks (ls : List Bool) (s : State) : QuietRun (ls.map .dtick) s := by
  induction ls generalizing s with
  | nil => trivial
  | cons l ls ih => exact ⟨rfl, by simp, (by rintro ⟨d, h, -⟩; cases h), fun t _ => ih t⟩

theorem dticks_map_dtick (ls : List Bool) : dticks (ls.map .dtick) = ls.length := by
  induction ls with
  | nil => rfl
  | cons l ls ih => rw [List.map_cons, dticks_cons, ih, if_pos ⟨l, rfl⟩, List.length_cons]

end Sys2Proof.Machine
end

