-- ==== Sys2Proof/Laws/Tick.lean ====
section
/-! SUPPORT. What each step of a DTICK writes (43_tick.md R150 to R157). -/

namespace Sys2Proof.Machine

open Sys2Proof

/-- The heartbeat step writes `hb_div` and `hb_led` only (43_tick.md R153). -/
theorem heartbeatStep_eq (c : Params) (power : Bool) (d : Dev) :
    heartbeatStep c power d =
      { d with
        hbDiv := if (if power then c.hbHalfSlow else c.hbHalfFast) ≤ d.hbDiv + 1 then 0 else d.hbDiv + 1
        hbLed := if (if power then c.hbHalfSlow else c.hbHalfFast) ≤ d.hbDiv + 1 then !d.hbLed else d.hbLed } := by
  by_cases h : (if power then c.hbHalfSlow else c.hbHalfFast) ≤ d.hbDiv + 1 <;> simp [heartbeatStep, h]

/-- The second step writes `sec_div` and `idle_counter` only (43_tick.md R154). -/
theorem secondStep_eq (c : Params) (d : Dev) :
    secondStep c d =
      { d with
        secDiv := if c.ticksPerSecond ≤ d.secDiv + 1 then 0 else d.secDiv + 1
        idleCounter :=
          if c.ticksPerSecond ≤ d.secDiv + 1 ∧ d.idleCounter < c.idleThreshold then d.idleCounter + 1 else d.idleCounter } := by
  by_cases h : c.ticksPerSecond ≤ d.secDiv + 1 <;> by_cases k : d.idleCounter < c.idleThreshold <;> simp [secondStep, h, k]

/-- The display countdown writes `led_timer` and `led_clear_pending` only (43_tick.md R156). -/
theorem ledCountdown_eq (d : Dev) :
    ledCountdown d =
      { d with ledTimer := d.ledTimer - 1, ledClearPending := d.ledClearPending || decide (d.ledTimer = 1) } := by
  by_cases h : 0 < d.ledTimer
  · simp [ledCountdown, h]
    rfl
  · have h0 : d.ledTimer = 0 := by omega
    simp [ledCountdown, h0]
    cases d
    simp_all

/-- The LED message a DTICK transmits, if any (43_tick.md R156). -/
def ledMessage (txOk : Bool) (d : Dev) : Option LedMessage :=
  match d.ledReq with
  | some p => if txOk then some (.pattern p) else none
  | none => if (ledCountdown d).ledClearPending && txOk then some .clear else none

/-- The LED step writes the three LED elements and emits at most one TX, of a framed LED body (43_tick.md R156). -/
theorem ledStep_eq (c : Params) (txOk : Bool) (s : State) :
    ledStep c txOk s =
      { s with
        dev := { s.dev with
          ledReq := if txOk then none else s.dev.ledReq
          ledTimer := if s.dev.ledReq = none then s.dev.ledTimer - 1 else s.dev.ledTimer
          ledClearPending :=
            if s.dev.ledReq = none then (s.dev.ledClearPending || decide (s.dev.ledTimer = 1)) && !txOk
            else s.dev.ledClearPending }
        out := s.out ++ match ledMessage txOk s.dev with
          | some m => [.tx (framed (c.ledBody m ++ [0]))]
          | none => [] } := by
  obtain ⟨r, ⟨v, w, q, n, p, x1, x2, x3, x4, x5, x6, x7⟩, t, o, a, i⟩ := s
  cases q with
  | some m => cases txOk <;> simp [ledStep, ledMessage, emitMessage, State.emit, State.setDev]
  | none =>
    simp only [ledStep, ledMessage, ledCountdown_eq]
    cases txOk <;> cases p <;> by_cases h : n = 1 <;> simp [emitMessage, State.emit, State.setDev, h]

/-- The whole of a DTICK on this hardware: what it writes, element by element (43_tick.md R150). -/
theorem deviceTick_pibus (l : Bool) (s : State) :
    deviceTick Config.pibus l s =
      { s with
        rxc := timeoutStep s.rxc
        dev := { s.dev with
          hbDiv := (heartbeatStep Config.pibus (powerEnable Config.pibus s.dev) s.dev).hbDiv
          hbLed := (heartbeatStep Config.pibus (powerEnable Config.pibus s.dev) s.dev).hbLed
          secDiv := (secondStep Config.pibus s.dev).secDiv
          idleCounter := (secondStep Config.pibus s.dev).idleCounter
          relayTimer := s.dev.relayTimer - 1
          holdTimer := s.dev.holdTimer - 1
          ledReq := if txPermitted l s.rxc then none else s.dev.ledReq
          ledTimer := if s.dev.ledReq = none then s.dev.ledTimer - 1 else s.dev.ledTimer
          ledClearPending :=
            if s.dev.ledReq = none then (s.dev.ledClearPending || decide (s.dev.ledTimer = 1)) && !txPermitted l s.rxc
            else s.dev.ledClearPending }
        out := s.out ++ match ledMessage (txPermitted l s.rxc) s.dev with
          | some m => [.tx (framed (Config.pibus.ledBody m ++ [0]))]
          | none => [] } := by
  simp only [deviceTick, Config.pibus_hasDev, if_true, ledStep_eq, State.setDev, State.setRxc, relayStep, holdStep, dec0,
    heartbeatStep_eq, secondStep_eq, ledMessage, ledCountdown_eq]

end Sys2Proof.Machine
end

