-- ==== Sys2Proof/Laws/TxQueue.lean ====
section
/-! SUPPORT. What the queue operations can do (44_txqueue.md). -/

namespace Sys2Proof.Machine

open Sys2Proof

@[simp] theorem entryTick_bytes (e : Entry) : (entryTick e).bytes = e.bytes := rfl
@[simp] theorem entryTick_countdown (e : Entry) : (entryTick e).countdown = e.countdown - 1 := rfl
@[simp] theorem entryTick_sync (e : Entry) : (entryTick e).sync = e.sync := rfl
@[simp] theorem entryTick_tag (e : Entry) : (entryTick e).tag = e.tag := rfl
@[simp] theorem entryTick_attempts (e : Entry) : (entryTick e).attempts = e.attempts := rfl

/-- ENQ inserts one entry or is refused (44_txqueue.md R170, R171). -/
theorem enqueue_cases (c : Params) (b : Packet) (y : Bool) (g : Tag) (p : Bool) (s : State) :
    ((b.length = 0 ∨ c.maxPacketSize < b.length ∨ s.txq.queue.length = c.queueCapacity) ∧
      enqueue c b y g p s = s.emit [.enqReject]) ∨
    (b.length ≠ 0 ∧ b.length ≤ c.maxPacketSize ∧ s.txq.queue.length ≠ c.queueCapacity ∧
      enqueue c b y g p s = s.setTxq { s.txq with
        queue := if p then newEntry c b y g :: s.txq.queue else s.txq.queue ++ [newEntry c b y g] }) := by
  unfold enqueue
  by_cases h : b.length = 0 ∨ c.maxPacketSize < b.length ∨ s.txq.queue.length = c.queueCapacity
  · exact .inl ⟨h, by rw [if_pos h]; rfl⟩
  · push Not at h
    refine .inr ⟨h.1, h.2.1, h.2.2, ?_⟩
    rw [if_neg (by omega)]

/-- RMMATCH removes one entry and latches `link_good`, or does nothing (44_txqueue.md R182). -/
theorem removeMatching_cases (c : Params) (b : Packet) (q : Txq) :
    removeMatching c b q = q ∨
      ∃ before e after, q.queue = before ++ e :: after ∧ (∀ x ∈ before, x.bytes ≠ b) ∧ e.bytes = b ∧
        removeMatching c b q = { queue := before ++ after, linkGood := true } := by
  unfold removeMatching
  split
  · rename_i h
    simp only [Bool.and_eq_true, List.any_eq_true, beq_iff_eq] at h
    obtain ⟨e, he, hb⟩ := h.2
    obtain ⟨x, before, after, h1, h2, h3, h4⟩ := List.exists_of_eraseP he (p := fun e => e.bytes == b) (by simpa using hb)
    exact .inr ⟨before, x, after, h3, by simpa using h1, by simpa using h2, by rw [h4]⟩
  · exact .inl rfl

/-- Without an equal entry RMMATCH does nothing. -/
theorem removeMatching_none (c : Params) (b : Packet) (q : Txq) (h : ∀ e ∈ q.queue, e.bytes ≠ b) :
    removeMatching c b q = q := by
  have : q.queue.any (fun e => e.bytes == b) = false := by simpa using h
  simp [removeMatching, this]

/-- The scan keeps the number, the order, and of every entry the bytes, the sync flag and the tag (44_txqueue.md R172). -/
theorem scanFrom_keeps (c : Params) (lg : Bool) (i : Nat) (q : List Entry) :
    (scanFrom c lg i q).entries.map (fun e => (e.bytes, e.sync, e.tag)) = q.map fun e => (e.bytes, e.sync, e.tag) := by
  induction q generalizing i with
  | nil => rfl
  | cons e rest ih =>
    simp only [scanFrom]
    repeat' split
    all_goals simp [ih, entrySent]

/-- The scan ends with a give-up only on an unproven link (44_txqueue.md R178). -/
theorem scanFrom_proven (c : Params) (i : Nat) (q : List Entry) : (scanFrom c true i q).giveUpAt = none := by
  induction q generalizing i with
  | nil => rfl
  | cons e rest ih =>
    simp only [scanFrom]
    repeat' split
    all_goals simp_all

/-- Behind the head, the scan from a sync entry on does nothing (44_txqueue.md R177). -/
theorem scanFrom_sync (c : Params) (lg : Bool) (i : Nat) (e : Entry) (rest : List Entry) (hi : i ≠ 0) (hs : e.sync = true) :
    scanFrom c lg i (e :: rest) = { entries := e :: rest, events := [], giveUpAt := none } := by
  simp [scanFrom, hi, hs]

/-- A STICK ends in one of five ways (44_txqueue.md R181). -/
theorem serviceTick_cases (c : Params) (ct cts li rxe : Bool) (s : State) :
    let s1 := s.setTxq { s.txq with queue := s.txq.queue.map entryTick }
    let r := scanFrom c s.txq.linkGood 0 (s.txq.queue.map entryTick)
    let s2 := (s1.setTxq { s.txq with queue := r.entries }).emit r.events
    ((ct = false ∨ s.txq.queue = []) ∧ serviceTick c ct cts li rxe s = s1.answer (.stick false false)) ∨
    (ct = true ∧ s.txq.queue ≠ [] ∧ ¬ (cts = true ∧ li = true ∧ rxe = true) ∧
      serviceTick c ct cts li rxe s = s1.answer (.stick true false)) ∨
    (ct = true ∧ s.txq.queue ≠ [] ∧ cts = true ∧ li = true ∧ rxe = true ∧
      ((∃ i, r.giveUpAt = some i ∧ serviceTick c ct cts li rxe s = (s2.raise (.giveUp i)).answer (.stick false true)) ∨
       (r.giveUpAt = none ∧ r.events = [] ∧ serviceTick c ct cts li rxe s = s2.answer (.stick false false)) ∨
       (r.giveUpAt = none ∧ r.events ≠ [] ∧
         serviceTick c ct cts li rxe s = (s2.emit [.txFlush]).answer (.stick false false)))) := by
  intro s1 r s2
  unfold serviceTick
  cases ct
  · exact .inl ⟨.inl rfl, rfl⟩
  by_cases hq : s.txq.queue = []
  · exact .inl ⟨.inr hq, by simp [hq, s1]⟩
  by_cases ha : cts = true ∧ li = true ∧ rxe = true
  · obtain ⟨rfl, rfl, rfl⟩ := ha
    refine .inr (.inr ⟨rfl, hq, rfl, rfl, rfl, ?_⟩)
    simp only [State.setTxq_txq, List.isEmpty_map, Bool.not_true, Bool.false_eq_true, if_false, Bool.or_self]
    rw [if_neg (by simpa using hq)]
    cases hg : r.giveUpAt with
    | some i => exact .inl ⟨i, rfl, by simp only [r] at hg; simp only; rfl⟩
    | none =>
      right
      by_cases he : r.events = []
      · left
        refine ⟨rfl, he, ?_⟩
        simp only [r] at hg he
        simp only [he]
        simp [s2, s1, r, he]
      · right
        refine ⟨rfl, he, ?_⟩
        have he' : r.events.isEmpty = false := by simpa using he
        simp only [r] at hg he'
        simp only [he']
        rfl
  · refine .inr (.inl ⟨rfl, hq, ha, ?_⟩)
    have : (!cts || !li || !rxe) = true := by
      cases cts <;> cases li <;> cases rxe <;> simp_all
    simp [hq, this, s1]

/-- The scan emits only the bytes of entries of the queue (44_txqueue.md R179). -/
theorem scanFrom_events (c : Params) (lg : Bool) (i : Nat) (q : List Entry) (x : OutEvent)
    (h : x ∈ (scanFrom c lg i q).events) : ∃ e ∈ q, x = .tx e.bytes ∨ x = .observe e.bytes := by
  induction q generalizing i with
  | nil => cases h
  | cons e rest ih =>
    simp only [scanFrom] at h
    repeat' split at h
    · cases h
    · cases h
    · simp only [List.mem_cons] at h
      rcases h with rfl | rfl | h
      · exact ⟨e, List.mem_cons_self, .inl rfl⟩
      · exact ⟨e, List.mem_cons_self, .inr rfl⟩
      · obtain ⟨y, hy, hx⟩ := ih _ h
        exact ⟨y, List.mem_cons_of_mem _ hy, hx⟩
    · obtain ⟨y, hy, hx⟩ := ih _ h
      exact ⟨y, List.mem_cons_of_mem _ hy, hx⟩

/-- Ahead of a sync entry that is not the head, the scan emits TX and OBSERVE of some entries, in order, and nothing else
(44_txqueue.md R177, R179). -/
theorem scanFrom_sent (c : Params) (lg : Bool) (before : List Entry) (e : Entry) (after : List Entry) (hs : e.sync = true)
    (i : Nat) (hi : i ≠ 0 ∨ before ≠ []) :
    ∃ sent : List Entry, sent.Sublist before ∧
      (scanFrom c lg i (before ++ e :: after)).events = sent.flatMap fun x => [.tx x.bytes, .observe x.bytes] := by
  induction before generalizing i with
  | nil => exact ⟨[], .slnil, by rw [List.nil_append, scanFrom_sync c lg i e after (by simpa using hi) hs]; rfl⟩
  | cons x before ih =>
    obtain ⟨sent, hb, he⟩ := ih (i + 1) (.inl (Nat.succ_ne_zero i))
    simp only [List.cons_append, scanFrom]
    repeat' split
    · exact ⟨[], List.nil_sublist _, rfl⟩
    · exact ⟨[], List.nil_sublist _, rfl⟩
    · exact ⟨x :: sent, hb.cons_cons x, by simp [he]⟩
    · exact ⟨sent, hb.cons x, he⟩

/-- A STICK writes entries, the output trace and its answer only (44_txqueue.md R172). -/
theorem serviceTick_frame (c : Params) (ct cts li rxe : Bool) (s : State) :
    (serviceTick c ct cts li rxe s).rxc = s.rxc ∧ (serviceTick c ct cts li rxe s).dev = s.dev ∧
      (serviceTick c ct cts li rxe s).inbox = s.inbox ∧ (serviceTick c ct cts li rxe s).freeCount = s.freeCount ∧
      (serviceTick c ct cts li rxe s).txq.linkGood = s.txq.linkGood := by
  rcases serviceTick_cases c ct cts li rxe s with ⟨_, e⟩ | ⟨_, _, _, e⟩ | ⟨_, _, _, _, _, e⟩
  · rw [e]; exact ⟨rfl, rfl, rfl, rfl, rfl⟩
  · rw [e]; exact ⟨rfl, rfl, rfl, rfl, rfl⟩
  · rcases e with ⟨i, _, e⟩ | ⟨_, _, e⟩ | ⟨_, _, e⟩ <;> (rw [e]; exact ⟨rfl, rfl, rfl, rfl, rfl⟩)

end Sys2Proof.Machine
end

