-- ==== Sys2Proof/Tests/Slice0.lean ====
section
/-! SUPPORT. The model's own tests. Expected values come from spec/95_test_vectors.md (its ids S, V-, P in the comments) or from
the encodings of 30_encoding.md. `T0` is the spec's SYNTHETIC test configuration (95_test_vectors.md section 0): its patterns,
bodies and durations say nothing about the hardware and no definition of the model uses it. -/

namespace Sys2Proof.Tests

open Sys2Proof Sys2Proof.Machine

/-- An LED body of T0. -/
def ledBodyT0 (n : Byte) : Packet := [0xC0, 0x04, 0xE0, 0x2B, n]

/-- The synthetic configuration T0 (95_test_vectors.md section 0). -/
def T0 : Params :=
  { Config.pibus with
    ledDisplayTicks := 3
    relayPulseTicks := 2
    holdTicks := 4
    hbHalfFast := 1
    hbHalfSlow := 2
    videoLines := fun v => match v with
      | .bus => ⟨false, false, false⟩
      | .companion => ⟨true, false, true⟩
      | .camera => ⟨false, true, true⟩
    queueCapacity := 4
    patGear := ⟨6, [0xA1, 0x04, 0xB2, 0x13, 0x00], [0xFF, 0xFF, 0xFF, 0xFF, 0x00]⟩
    patFob := ⟨6, [0xA2, 0x04, 0xB2, 0x72, 0x00], [0xFF, 0xFF, 0xFF, 0xFF, 0x00]⟩
    fobIdx := 4
    fobMask := 0x10
    fobVal := 0x10
    patCdcEnter :=
      ⟨20, [0xA3, 0x12, 0xB3, 0x23, 1, 2, 3, 4, 5, 6, 7, 8, 9, 10, 11, 12, 13, 14, 15], List.replicate 19 0xFF⟩
    patCdcExitBtn := ⟨6, [0xA4, 0x04, 0xB2, 0x48, 0x80], [0xFF, 0xFF, 0xFF, 0xFF, 0x80]⟩
    patCdcExitMenu := ⟨7, [0xA5, 0x05, 0xB3, 0x21, 0x00, 0x00], [0xFF, 0xFF, 0xFF, 0xFF, 0x00, 0xFF]⟩
    ledBody := fun m => match m with
      | .pattern .bus => ledBodyT0 0x01
      | .pattern .companion => ledBodyT0 0x02
      | .pattern .camera => ledBodyT0 0x04
      | .pattern .blinkAll => ledBodyT0 0x3F
      | .clear => ledBodyT0 0x00 }

def cyclePkt : Packet := [0xF0, 0x04, 0xFF, 0x48, 0x08, 0x4B]
def gearReverse : Packet := [0xA1, 0x04, 0xB2, 0x13, 0x10, 0x14]
def gearOther : Packet := [0xA1, 0x04, 0xB2, 0x13, 0x40, 0x44]
def fobPressedPkt : Packet := [0xA2, 0x04, 0xB2, 0x72, 0x10, 0x76]
def fobReleased : Packet := [0xA2, 0x04, 0xB2, 0x72, 0x00, 0x66]
def cdcEnterPkt : Packet := [0xA3, 0x12, 0xB3, 0x23, 1, 2, 3, 4, 5, 6, 7, 8, 9, 10, 11, 12, 13, 14, 15, 0x21]
def cdcExitBtnPkt : Packet := [0xA4, 0x04, 0xB2, 0x48, 0x80, 0xDA]
def cdcExitMenuPkt : Packet := [0xA5, 0x05, 0xB3, 0x21, 0x7E, 0x00, 0x4C]
def noReactionPkt : Packet := [0x50, 0x03, 0xC8, 0x01, 0x9A]
def pktA : Packet := [0x68, 0x04, 0x18, 0x38, 0x00, 0x4C]
def pktB : Packet := [0x68, 0x05, 0x18, 0x38, 0x01, 0x00, 0x4C]
def pktC : Packet := [0x68, 0x03, 0x18, 0x01, 0x72]
def pkt32 : Packet :=
  [0x80, 0x1E, 0xBF, 0x01, 0x02, 0x03, 0x04, 0x05, 0x06, 0x07, 0x08, 0x09, 0x0A, 0x0B, 0x0C, 0x0D] ++
  [0x0E, 0x0F, 0x10, 0x11, 0x12, 0x13, 0x14, 0x15, 0x16, 0x17, 0x18, 0x19, 0x1A, 0x1B, 0x1C, 0x3D]

/-- The state after one operation. -/
def after (i : Instr) (s : State) : State :=
  match exec i s with
  | .next t => t
  | .fault _ => s
  | .refused _ => s

/-- The state after one step. -/
def stepped (s : State) : State :=
  match step s with
  | .next t => t
  | .fault _ => s
  | .refused _ => s

/-- The reset state with `p` accumulated and the timeout running. -/
def holding (p : Packet) : State :=
  { State.reset with
    rxc := { acc := p ++ List.replicate (32 - p.length) 0, cursor := p.length, rxTimeout := if p = [] then 0 else 1 } }

/-- The reset state with a queue. -/
def queued (q : List Entry) (good : Bool) : State := { State.reset with txq := { queue := q, linkGood := good } }

def entry (b : Packet) (countdown : Nat) (sync : Bool) (tag : Tag) (attempts : Nat) : Entry :=
  { bytes := b, countdown := countdown, sync := sync, tag := tag, attempts := attempts }

/-- The reset state with one frame to come. -/
def presenting (f : Frame) : State := { State.reset with inbox := [f] }

/-- What a decoder gives, or nothing. -/
def decoded (c : Params) (k : FrameKind) (bytes : List Byte) : Option Instr :=
  match decode c { kind := k, bytes := bytes } with
  | .ok i => some i
  | .error _ => none

/-- Why a decoder refuses, or nothing. -/
def rejected (c : Params) (k : FrameKind) (bytes : List Byte) : Option Reject :=
  match decode c { kind := k, bytes := bytes } with
  | .ok _ => none
  | .error r => some r

/-! ## WellFormed: one ill-formed term for each check -/

theorem smoke_wf_cycle : (Instr.cycle gearOther).wf T0 = false := by decide
theorem smoke_wf_gear : (Instr.gear cyclePkt).wf Config.pibus = false := by decide
theorem smoke_wf_fob : (Instr.fob cyclePkt).wf Config.pibus = false := by decide
theorem smoke_wf_cdcEnter : (Instr.cdcEnter cyclePkt).wf Config.pibus = false := by decide
theorem smoke_wf_cdcExitBtn : (Instr.cdcExitBtn cyclePkt).wf Config.pibus = false := by decide
theorem smoke_wf_cdcExitMenu : (Instr.cdcExitMenu cyclePkt).wf Config.pibus = false := by decide

/-! ## Decode: every constructor by a word written out from R74 and R77 -/

theorem test_decode_rxbyte : decoded Config.pibus .operation [0x00, 0xC8, 0b101] = some (.rxbyte 0xC8 0b101) := by decide
theorem test_decode_dtick : decoded Config.pibus .operation [0x01, 1] = some (.dtick true) := by decide
theorem test_decode_stick :
    decoded Config.pibus .operation [0x02, 1, 0, 0, 1] = some (.stick true false false true) := by decide
theorem test_decode_enq :
    decoded Config.pibus .operation [0x03, 0, 0x07, 1, 0x68, 0x03, 0x18, 0x01, 0x00] =
      some (.enq [0x68, 0x03, 0x18, 0x01, 0x00] false 0x07 true) := by decide
theorem test_decode_rmmatch : decoded Config.pibus .operation [0x04, 0x68, 0x02] = some (.rmmatch [0x68, 0x02]) := by decide
theorem test_decode_rmtag : decoded Config.pibus .operation [0x05, 0x80] = some (.rmtag 0x80) := by decide
theorem test_decode_discard : decoded Config.pibus .operation [0x06] = some .discard := by decide
theorem test_decode_reset : decoded Config.pibus .operation [0x07] = some .reset := by decide
theorem test_decode_chk : decoded Config.pibus .operation [0x10, 0x5A] = some (.chk [0x5A]) := by decide
theorem test_decode_xsize : decoded Config.pibus .operation [0x11, 0xFF] = some (.xsize 0xFF) := by decide
theorem test_decode_frame : decoded Config.pibus .operation [0x12, 0xAA] = some (.frame [0xAA]) := by decide
theorem test_decode_verify : decoded Config.pibus .operation [0x13, 0x07] = some (.verify [0x07]) := by decide
theorem test_decode_accreset : decoded Config.pibus .operation [0x14] = some .accreset := by decide
theorem test_decode_complete : decoded Config.pibus .operation [0x15] = some .complete := by decide
theorem test_decode_dispatch : decoded Config.pibus .operation (0x16 :: pkt32) = some (.dispatch pkt32) := by decide
theorem test_decode_setsrc : decoded Config.pibus .operation [0x17, 1, 0] = some (.setsrc .companion false) := by decide
theorem test_decode_ledreq : decoded Config.pibus .operation [0x18, 4] = some (.ledreq (some .blinkAll)) := by decide
theorem test_decode_txemit :
    decoded Config.pibus .operation [0x19, 0xC0, 0x02, 0xE0] = some (.txemit [0xC0, 0x02, 0xE0]) := by decide
theorem test_decode_cycle :
    decoded Config.pibus .packet [0xF0, 0x04, 0xFF, 0x48, 0x08, 0x4B] = some (.cycle cyclePkt) := by decide
theorem test_decode_gear : decoded T0 .packet [0xA1, 0x04, 0xB2, 0x13, 0x10, 0x14] = some (.gear gearReverse) := by decide
theorem test_decode_fob : decoded T0 .packet [0xA2, 0x04, 0xB2, 0x72, 0x00, 0x66] = some (.fob fobReleased) := by decide
theorem test_decode_cdcEnter : decoded T0 .packet cdcEnterPkt = some (.cdcEnter cdcEnterPkt) := by decide
/-- V-D8: bit 7 of byte 4 is compared, the other bits are not. -/
theorem test_decode_cdcExitBtn :
    decoded T0 .packet [0xA4, 0x04, 0xB2, 0x48, 0xC1, 0x9B] = some (.cdcExitBtn [0xA4, 0x04, 0xB2, 0x48, 0xC1, 0x9B]) := by
  decide
theorem test_decode_cdcExitMenu : decoded T0 .packet cdcExitMenuPkt = some (.cdcExitMenu cdcExitMenuPkt) := by decide

/-- The numbers of R85: sources, values of `led_req`, and the message code CLEAR. -/
theorem test_enumeration_codes :
    [VideoSource.bus, .companion, .camera].map VideoSource.code = [0, 1, 2] ∧
    [none, some LedPattern.bus, some .companion, some .camera, some .blinkAll].map ledReqCode = [0, 1, 2, 3, 4] ∧
    [LedMessage.pattern .bus, .pattern .companion, .pattern .camera, .pattern .blinkAll, .clear].map LedMessage.code =
      [1, 2, 3, 4, 5] := by decide

theorem test_reject_empty : rejected Config.pibus .operation [] = some .emptyFrame := by decide
theorem test_reject_unassigned : rejected Config.pibus .operation [0x1A, 0] = some .unassignedIdentifier := by decide
theorem test_reject_above_five_bits : rejected Config.pibus .operation [0x21, 0] = some .unassignedIdentifier := by decide
theorem test_reject_count : rejected Config.pibus .operation [0x05] = some .operandCount := by decide
theorem test_reject_source_3 : rejected Config.pibus .operation [0x17, 3, 0] = some .operandValue := by decide
theorem test_reject_led_5 : rejected Config.pibus .operation [0x18, 5] = some .operandValue := by decide
theorem test_reject_fault_8 : rejected Config.pibus .operation [0x00, 0, 8] = some .operandValue := by decide
/-- V-D8: bit 7 of byte 4 clear, so no row matches; the packet is only dispatched (R138). -/
theorem test_decode_no_row :
    decoded T0 .packet [0xA4, 0x04, 0xB2, 0x48, 0x40, 0x1A] = some (.dispatch [0xA4, 0x04, 0xB2, 0x48, 0x40, 0x1A]) := by
  decide
/-- Byte sequences of any size are operands: none of these frames is refused. -/
theorem test_decode_any_size :
    decoded Config.pibus .operation [0x12] = some (.frame []) ∧
    decoded Config.pibus .operation [0x13] = some (.verify []) ∧
    decoded Config.pibus .operation [0x16, 0x50, 0x02, 0xC8, 0x9A] = some (.dispatch [0x50, 0x02, 0xC8, 0x9A]) ∧
    decoded Config.pibus .operation [0x19, 0xC0] = some (.txemit [0xC0]) ∧
    decoded Config.pibus .packet [] = some (.dispatch []) := by decide

/-- The word of the table's row CYCLE: byte 0 lowest. -/
theorem test_tableWord_cycle :
    decodeTableWord 40 0x0848FF04F0 = some (.cycle [0xF0, 0x04, 0xFF, 0x48, 0x08, 0x00]) := by decide
/-- The zero operand of LEDREQ is the code NONE. -/
theorem test_tableWord_ledreq : decodeTableWord 8 0x18 = some (.ledreq none) := by decide
theorem test_tableWord_stick : decodeTableWord 8 0x02 = some (.stick false false false false) := by decide
theorem test_fetchWord_dtick : (stepped (State.reset.withFetchWord 8 0x01)).dev.secDiv = 1 := by decide
theorem test_fetchWord_cycle :
    (stepped (State.reset.withFetchWord 40 0x0848FF04F0)).dev.videoSource = .companion := by decide

/-! ## FRM (95_test_vectors.md 2.1) -/

/-- V-F3. -/
theorem test_chk : (after (.chk [0x50, 0x03, 0xC8, 0x01]) State.reset).result = .byte 0x9A := by decide
/-- V-F6. -/
theorem test_chk_every_bit :
    (after (.chk [0x01, 0x02, 0x04, 0x08, 0x10, 0x20, 0x40, 0x80]) State.reset).result = .byte 0xFF := by decide
/-- V-F8. -/
theorem test_xsize_no_wrap : (after (.xsize 0xFF) State.reset).result = .size 257 := by decide
/-- V-F11. -/
theorem test_frame_ignores_placeholder :
    (after (.frame [0x3F, 0x03, 0xD0, 0x0B, 0xFF]) State.reset).result = .bytes [0x3F, 0x03, 0xD0, 0x0B, 0xE7] := by decide
/-- V-F9. -/
theorem test_frame_size_1 : (after (.frame [0xAA]) State.reset).result = .bytes [0x00] := by decide
/-- V-F14. -/
theorem test_verify_one_bit : (after (.verify [0x50, 0x03, 0xC8, 0x01, 0x9B]) State.reset).result = .bool false := by decide
/-- V-F15. -/
theorem test_verify_cancels : (after (.verify [0x50, 0x03, 0xC9, 0x00, 0x9A]) State.reset).result = .bool true := by decide

/-! ## RXC (2.2) -/

/-- V-RX1. -/
theorem test_rxbyte_faulty : (after (.rxbyte 0xC8 1) (holding [0x50, 0x03])).rxc = (holding [0x50, 0x03]).rxc := by decide
/-- S2: one byte short is kept, the fifth completes. -/
theorem test_rxbyte_completes :
    (after (.rxbyte 0x01 0) (holding [0x50, 0x03, 0xC8])).rxc.cursor = 4 ∧
      (after (.rxbyte 0x9A 0) (holding [0x50, 0x03, 0xC8, 0x01])).rxc.cursor = 0 := by decide
theorem test_accreset :
    (after .accreset (holding [0x50, 0x03])).rxc.cursor = 0 ∧
      (after .accreset (holding [0x50, 0x03])).rxc.acc.take 2 = [0x50, 0x03] := by decide
/-- V-RX8: the wrong checksum makes no difference; the idle counter (4) is cleared. -/
theorem test_complete_wrong_checksum :
    let s := holding [0xF0, 0x04, 0xFF, 0x48, 0x08, 0x4C]
    let t := after .complete { s with dev := { s.dev with idleCounter := 4 } }
    t.dev.videoSource = .companion ∧ t.dev.idleCounter = 0 := by decide
/-- V-RX8 with RX_VERIFY_CHECKSUM: dropped. -/
theorem test_complete_verifying :
    let s := holding [0xF0, 0x04, 0xFF, 0x48, 0x08, 0x4C]
    let t := completePacket { T0 with rxVerifyChecksum := true } { s with dev := { s.dev with idleCounter := 4 } }
    t.dev.videoSource = .bus ∧ t.dev.idleCounter = 4 ∧ t.rxc.cursor = 0 := by decide

/-! ## DEV (2.3) -/

/-- S3. -/
theorem test_cycle_camera_to_bus :
    let d := (after (.cycle cyclePkt) { State.reset with dev := { State.reset.dev with videoSource := .camera } }).dev
    d.videoSource = .bus ∧ d.savedSource = .bus ∧ d.ledReq = some .bus := by decide
/-- S4: reverse, low nibble ignored, `saved_source` kept. -/
theorem test_gear_reverse :
    let d := (after (.gear [0xA1, 0x04, 0xB2, 0x13, 0x1F, 0x1B]) State.reset).dev
    d.videoSource = .camera ∧ d.savedSource = .bus := by decide
/-- S4: any other nibble restores. -/
theorem test_gear_restores :
    (after (.gear gearOther)
      { State.reset with dev := { State.reset.dev with videoSource := .camera, savedSource := .companion } }).dev.videoSource =
      .companion := by decide
/-- V-D5: release after the countdown expired. -/
theorem test_fob_fires :
    let d := reactFob T0 fobReleased { State.reset.dev with holdArmed := true, holdTimer := 0 }
    d.relayTimer = 2 ∧ d.ledReq = some .blinkAll ∧ d.ledTimer = 3 ∧ d.holdArmed = false := by decide
/-- V-D7: a repeated press does not reload. -/
theorem test_fob_pressed_again :
    (reactFob T0 fobPressedPkt { State.reset.dev with holdArmed := true, holdTimer := 2 }).holdTimer = 2 := by decide
/-- V-D8. -/
theorem test_cdcEnter :
    let d := (after (.cdcEnter cdcEnterPkt) State.reset).dev
    d.videoSource = .companion ∧ d.savedSource = .companion ∧ d.ledReq = none := by decide
/-- V-D8. -/
theorem test_cdcExitBtn :
    (after (.cdcExitBtn cdcExitBtnPkt) (after (.cdcEnter cdcEnterPkt) State.reset)).dev = State.reset.dev := by decide
/-- V-D8. -/
theorem test_cdcExitMenu :
    (after (.cdcExitMenu cdcExitMenuPkt) (after (.cdcEnter cdcEnterPkt) State.reset)).dev = State.reset.dev := by decide
/-- V-D8: one bit changed in byte 10 of the CDC enter packet, or byte 5 of the menu packet, matches nothing. -/
theorem test_dispatch_no_match :
    dispatchPacket T0 [0xA3, 0x12, 0xB3, 0x23, 1, 2, 3, 4, 5, 6, 6, 8, 9, 10, 11, 12, 13, 14, 15, 0x20] State.reset.dev =
      State.reset.dev ∧
    dispatchPacket T0 [0xA5, 0x05, 0xB3, 0x21, 0x00, 0x01, 0x33] State.reset.dev = State.reset.dev := by decide
theorem test_dispatch_cycle : (after (.dispatch cyclePkt) State.reset).dev.videoSource = .companion := by decide
theorem test_setsrc_without_save :
    let d := (after (.setsrc .camera false) State.reset).dev
    d.videoSource = .camera ∧ d.savedSource = .bus := by decide
theorem test_setsrc_with_save : (after (.setsrc .companion true) State.reset).dev.savedSource = .companion := by decide
/-- V-T3: a request cancels a pending clear. -/
theorem test_ledreq_cancels_clear :
    let d := (after (.ledreq (some .camera)) { State.reset with dev := { State.reset.dev with ledClearPending := true } }).dev
    d.ledReq = some .camera ∧ d.ledClearPending = false := by decide

/-- The code NONE: the timer and the cancelled clear are R140's whatever `led_req` becomes (notes/assumptions/17). -/
theorem test_ledreq_none :
    let s := { State.reset with dev := { State.reset.dev with ledClearPending := true } }
    (after (.ledreq none) s).dev.ledClearPending = false ∧ (after (.ledreq none) s).freeCount = 1 := by decide

/-! ## DTICK and TXEMIT (2.4) -/

/-- V-T4: the 150th DTICK. -/
theorem test_dtick_second :
    let d := (after (.dtick true) { State.reset with dev := { State.reset.dev with secDiv := 149 } }).dev
    d.secDiv = 0 ∧ d.idleCounter = 1 := by decide
/-- V-T2: a partial packet at entry blocks the request, and is discarded. -/
theorem test_dtick_partial_blocks_led :
    let s := holding [0x50]
    let t := deviceTick T0 true { s with dev := { s.dev with ledReq := some .companion, ledTimer := 3 } }
    t.dev.ledReq = some .companion ∧ t.dev.ledTimer = 3 ∧ t.out = [] ∧ t.rxc.cursor = 0 := by decide
/-- P1, DTICK 2: the message of the COMPANION pattern. -/
theorem test_txemit : (after (.txemit (ledBodyT0 0x02)) State.reset).out = [.tx [0xC0, 0x04, 0xE0, 0x2B, 0x02, 0x0D]] := by decide

/-! ## TXQ (2.5) -/

/-- V-Q2: size 1 is accepted. -/
theorem test_enq_size_1 :
    (enqueue T0 [0x11] false 0 false State.reset).txq.queue = [entry [0x00] 1 false 0 0] := by decide
/-- V-Q2: empty. -/
theorem test_enq_empty : (after (.enq [] false 0 false) State.reset).out = [.enqReject] := by decide
/-- V-Q3. -/
theorem test_stick_sends :
    let t := after clearStick (queued [entry pktA 1 false 0 0] false)
    t.txq.queue = [entry pktA 10 false 0 1] ∧ t.out = [.tx pktA, .observe pktA, .txFlush] ∧
      t.result = .stick false false := by decide
/-- V-Q7: give-up behind a sent entry. -/
theorem test_stick_gives_up_behind_sent :
    let t := after clearStick (queued [entry pktC 1 false 0 0, entry pktA 1 false 0 4] false)
    t.txq.queue = [entry pktC 10 false 0 1, entry pktA 0 false 0 0] ∧ t.out = [.tx pktC, .observe pktC] ∧
      t.result = .stick false true := by decide
/-- V-Q10: only the first of two equal entries. -/
theorem test_rmmatch_first :
    (after (.rmmatch pktA) (queued [entry pktA 1 false 1 0, entry pktA 1 false 2 0, entry pktC 1 false 3 0] false)).txq =
      { queue := [entry pktA 1 false 2 0, entry pktC 1 false 3 0], linkGood := true } := by decide
/-- V-Q10: a wrong checksum, a shorter packet. -/
theorem test_rmmatch_differs :
    let s := queued [entry pktA 1 false 1 0] false
    (after (.rmmatch [0x68, 0x04, 0x18, 0x38, 0x00, 0x4D]) s).txq = s.txq ∧
      (after (.rmmatch [0x68, 0x04, 0x18, 0x38, 0x00]) s).txq = s.txq := by decide
/-- V-Q11. -/
theorem test_rmtag :
    (after (.rmtag 7) (queued [entry pktA 1 false 7 0, entry pktB 1 true 9 0, entry pktC 1 false 7 0] false)).txq =
      { queue := [entry pktB 1 true 9 0], linkGood := false } := by decide
/-- V-Q11: `link_good` survives. -/
theorem test_discard : (after .discard (queued [entry pktA 10 false 0 1] true)).txq = { queue := [], linkGood := true } := by
  decide
theorem test_reset : after .reset (queued [entry pktA 10 false 0 1] true) = State.reset := by decide

/-! ## Witnesses: for every obligation with hypotheses, a state and operands that meet them, at the boundary values -/

theorem witness_ChkIsBitwiseXorOfAllBytes : (([] : Packet) = []) ∧ ([0x5A] : Packet) = [0x5A] ∧ 7 < 8 := by decide

theorem witness_FrameFillsTheTrailingChecksum : ([0xAA] : Packet) ≠ [] := by decide

/-- The last bit of the last byte, and one bit in two bytes, of a framed packet. -/
theorem witness_VerifyComparesTheTrailingChecksum :
    noReactionPkt ≠ [] ∧ 4 < noReactionPkt.length ∧ 7 < 8 ∧ verified noReactionPkt = true ∧ 3 < 4 := by decide

theorem witness_RoundTripFramingLaw : ([0xAA] : Packet) ≠ [] ∧ pkt32 ≠ [] := by decide

theorem witness_FaultyByteChangesNothing : (0b001 : BitVec 3) ≠ 0 ∧ (0b111 : BitVec 3) ≠ 0 := by decide

/-- V-RX5: 32 bytes with a declared size of 33. -/
theorem witness_ByteAtFullAccumulatorIsDropped : (holding (0x80 :: 0x1F :: List.replicate 30 0)).rxc.cursor = 32 := by decide

/-- The first byte; and the last that fits, of a packet that is too long. -/
theorem witness_ByteIsStoredAtTheCursor :
    (State.reset.rxc.acc.length = 32 ∧ State.reset.rxc.cursor < 32 ∧ ¬ completesPacket (.rxbyte 0x50 0) State.reset) ∧
    let s := holding (0x80 :: 0x1F :: List.replicate 29 0)
    s.rxc.acc.length = 32 ∧ s.rxc.cursor = 31 ∧ ¬ completesPacket (.rxbyte 0x55 0) s := by
  refine ⟨⟨by decide, by decide, ?_⟩, by decide, by decide, ?_⟩
  · rintro ⟨d, -, -, h, -⟩
    revert h
    decide
  · rintro ⟨d, hd, -, -, h⟩
    cases hd
    revert h
    decide

/-- The smallest and the largest receivable packet before their last byte, and a packet that stays partial. -/
theorem witness_CompletionTestIsDeclaredSize :
    (holding [0x50, 0x03, 0xC8, 0x01]).rxc.cursor < 32 ∧
    (after (.rxbyte 0x9A 0) (holding [0x50, 0x03, 0xC8, 0x01])).rxc.cursor = 0 ∧
    (holding (pkt32.take 31)).rxc.cursor < 32 ∧ (after (.rxbyte 0x3D 0) (holding (pkt32.take 31))).rxc.cursor = 0 ∧
    (after (.rxbyte 0x11 0) (holding [0x50, 0x02, 0xC8, 0x9A])).rxc.cursor ≠ 0 := by decide

theorem witness_CompletingByteRunsComplete :
    (holding [0x50, 0x03, 0xC8, 0x01]).rxc.acc.length = 32 ∧
      completesPacket (.rxbyte 0x9A 0) (holding [0x50, 0x03, 0xC8, 0x01]) ∧
      completesPacket (.rxbyte 0x3D 0) (holding (pkt32.take 31)) :=
  ⟨by decide, ⟨0x9A, rfl, by decide, by decide, by decide⟩, ⟨0x3D, rfl, by decide, by decide, by decide⟩⟩

/-- Sizes 5 (S2) and 32 (V-RX9), and a proper prefix. -/
theorem witness_WholePacketIsReceivedAndDispatched :
    State.reset.rxc.acc.length = 32 ∧ State.reset.rxc.cursor = 0 ∧
    (5 ≤ noReactionPkt.length ∧ noReactionPkt.length ≤ 32 ∧ (noReactionPkt.getD 1 0).toNat + 2 = noReactionPkt.length) ∧
    (5 ≤ pkt32.length ∧ pkt32.length ≤ 32 ∧ (pkt32.getD 1 0).toNat + 2 = pkt32.length) ∧ 0 < 4 ∧ 4 < noReactionPkt.length := by
  decide

/-- A state within the bounds with a partial packet, a request, an unfinished hold, and a queued entry. -/
def busy : State :=
  { State.reset with
    rxc := (holding [0x50, 0x03]).rxc
    dev := { State.reset.dev with videoSource := .camera, ledReq := some .bus, ledTimer := 1, secDiv := 149 }
    txq := { queue := [entry pktA 10 true 7 4], linkGood := false }
    out := [.tx pktC, .observe pktC, .txFlush]
    inbox := [{ kind := .operation, bytes := [0x01, 1] }] }

theorem busy_inv : busy.Inv Config.pibus := by
  refine ⟨⟨by decide, by decide, by decide, by decide⟩, ⟨?_, by decide, by decide, Nat.zero_le _, Nat.zero_le _, Nat.zero_le _, ?_, ?_, ?_⟩,
    ⟨Config.pibus_queueCapacity_pos, ?_, ?_⟩, ?_⟩
  · exact Config.pibus_ledDisplayTicks_pos
  · exact fun _ => rfl
  · exact fun h => absurd h (by decide)
  · exact fun _ => rfl
  · intro e he
    cases List.mem_singleton.mp he
    exact ⟨by decide, by decide, by decide, by decide, by decide⟩
  · intro _ e he
    cases List.mem_singleton.mp he
    decide
  · intro b hb
    simp only [busy, List.mem_cons, OutEvent.tx.injEq, OutEvent.observe.injEq, reduceCtorEq, List.not_mem_nil, or_false,
      false_or] at hb
    rcases hb with rfl | rfl <;> decide

/-- Each way a partial packet is emptied. -/
theorem witness_AccresetEmptiesWithoutClearing :
    0 < (holding [0x50, 0x03]).rxc.cursor ∧ 0 < (holding [0x50, 0x03, 0xC8, 0x01]).rxc.cursor ∧
    (∃ t, exec .accreset (holding [0x50, 0x03]) = .next t ∧ t.rxc.cursor = 0) ∧
    (∃ t, exec .complete (holding [0x50, 0x03]) = .next t ∧ t.rxc.cursor = 0) ∧
    (∃ t, exec (.rxbyte 0x9A 0) (holding [0x50, 0x03, 0xC8, 0x01]) = .next t ∧ t.rxc.cursor = 0) ∧
    (∃ t, exec (.dtick false) (holding [0x50, 0x03]) = .next t ∧ t.rxc.cursor = 0) ∧
    ∃ t, exec .reset (holding [0x50, 0x03]) = .next t ∧ t.rxc.cursor = 0 :=
  ⟨by decide, by decide, ⟨_, rfl, by decide⟩, ⟨_, rfl, by decide⟩, ⟨_, rfl, by decide⟩, ⟨_, rfl, by decide⟩, _, rfl, by decide⟩

/-- The timeout at 1 (the boundary) within the bounds, and above it outside this hardware's states. -/
theorem witness_DtickDiscardsAPartialPacket :
    busy.rxc.rxTimeout ≤ 1 ∧ busy.Inv Config.pibus ∧
      1 < ({ State.reset with rxc := { State.reset.rxc with cursor := 1, rxTimeout := 2 } } : State).rxc.rxTimeout :=
  ⟨by decide, busy_inv, by decide⟩

theorem witness_PatternMatchIsMaskedEquality :
    Config.patCycle.wf ∧ T0.patCdcExitMenu.wf ∧ 0 < Config.patCycle.size - 1 ∧ 4 < Config.patCycle.size - 1 := by
  refine ⟨⟨by decide, by decide, by decide⟩, ⟨by decide, by decide, by decide⟩, by decide, by decide⟩

/-- Byte 4 just present; both nibble cases. -/
theorem witness_GearForcesCameraOrRestores :
    4 < ([0xA1, 0x04, 0xB2, 0x13, 0x1F] : Packet).length ∧ (0x1F : Byte).toNat / 16 = 1 ∧ (0xF1 : Byte).toNat / 16 ≠ 1 := by
  decide

/-- A packet in which the button byte is just present; in it the button reads as pressed. -/
theorem witness_FobArmsFiresAndDisarms :
    Config.pibus.fobIdx < (List.replicate (Config.pibus.fobIdx + 1) Config.pibus.fobVal).length ∧
      Config.pibus.fobVal &&& Config.pibus.fobMask = Config.pibus.fobVal := by
  refine ⟨by simp, ?_⟩
  simp only [Config.pibus]
  ext i
  simp

/-- Each clause: sent, waiting; a clear due or falling due, sent and waiting; nothing due. -/
theorem witness_DtickDrivesTheLeds :
    let d := State.reset.dev
    busy.dev.ledReq = some .bus ∧ ¬ (true = true ∧ busy.rxc.cursor = 0) ∧ (true = true ∧ State.reset.rxc.cursor = 0) ∧
    ({ d with ledTimer := 1 } : Dev).ledReq = none ∧ ({ d with ledTimer := 1 } : Dev).ledTimer = 1 ∧
    ({ d with ledClearPending := true } : Dev).ledClearPending = true ∧ ¬ (false = true ∧ State.reset.rxc.cursor = 0) ∧
    ({ d with ledTimer := 2 } : Dev).ledClearPending = false ∧ ({ d with ledTimer := 2 } : Dev).ledTimer ≠ 1 := by decide

theorem witness_DtickCountsIdleSeconds :
    ∃ t, exec (.ledreq (some .bus)) busy = .next t ∧ Instr.ledreq (some .bus) ≠ .reset ∧ Instr.ledreq (some .bus) ≠ .complete ∧
      (∀ l, Instr.ledreq (some .bus) ≠ .dtick l) ∧ ∀ d f, Instr.ledreq (some .bus) ≠ .rxbyte d f := ⟨_, rfl, nofun, nofun, nofun, nofun⟩

/-- Runs of 53999 and 54000 DTICKs (S7). -/
theorem witness_IdlePowerLaw :
    busy.Inv Config.pibus ∧ busy.dev.idleCounter = 0 ∧ State.reset.dev.secDiv = 0 ∧
    ({ busy with dev := State.reset.dev } : State).Inv Config.pibus ∧
    (∀ n, QuietRun ((List.replicate n true).map .dtick) { busy with dev := State.reset.dev }) ∧
    dticks ((List.replicate 54000 true).map .dtick) = 54000 ∧ dticks ((List.replicate 53999 true).map .dtick) = 53999 := by
  refine ⟨busy_inv, by decide, by decide, ⟨busy_inv.1, ?_, busy_inv.2.2⟩, fun n => quietRun_dticks _ _, ?_, ?_⟩
  · exact ⟨Nat.zero_le _, Nat.zero_le _, Nat.zero_le _, Nat.zero_le _, Nat.zero_le _, Nat.zero_le _, fun h => absurd rfl h,
      fun _ => rfl, fun _ => rfl⟩
  · rw [dticks_map_dtick, List.length_replicate]
  · rw [dticks_map_dtick, List.length_replicate]

/-- V-D5 and V-D6: 4 DTICKs fire, 3 do not. -/
theorem witness_LongPressFiresAfterHoldTicks :
    T0.hasDev = true ∧ fobPressed T0 fobPressedPkt = true ∧ fobPressed T0 fobReleased = false ∧
      State.reset.dev.holdArmed = false ∧ T0.holdTicks ≤ [true, true, true, true].length ∧
      [true, true, true].length < T0.holdTicks := by decide

/-- Sizes 1 and 32 on an empty queue. -/
theorem witness_EnqInsertsAFramedEntry :
    1 ≤ ([0x11] : Packet).length ∧ ([0x11] : Packet).length ≤ 32 ∧ 1 ≤ pkt32.length ∧ pkt32.length ≤ 32 ∧
      State.reset.txq.queue.length ≠ Config.pibus.queueCapacity :=
  ⟨by decide, by decide, by decide, by decide, (Nat.ne_of_lt Config.pibus_queueCapacity_pos)⟩

/-- Empty; 33 bytes; a full queue. -/
theorem witness_EnqRefusesWhole :
    ([] : Packet).length = 0 ∧ 32 < (0x00 :: pkt32).length ∧
      (queued (List.replicate Config.pibus.queueCapacity (entry pktA 1 false 0 0)) false).txq.queue.length =
        Config.pibus.queueCapacity :=
  ⟨by decide, by decide, by simp [queued]⟩

theorem witness_StickWithoutAScan :
    State.reset.txq.queue = [] ∧ busy.txq.queue ≠ [] ∧ ¬ (false = true ∧ true = true ∧ true = true) ∧
      ¬ (true = true ∧ false = true ∧ true = true) ∧ ¬ (true = true ∧ true = true ∧ false = true) := by decide

/-- Three attempts on an unproven link, four on a proven one; a sync entry behind the head is not visited. -/
theorem witness_StickSendsTheScannedEntries :
    (∀ e ∈ scanned [entry pktA 0 true 0 3, entry pktB 0 true 0 4], ¬ givesUp false e) ∧
      (∀ e ∈ scanned [entry pktA 0 false 0 4], ¬ givesUp true e) := by
  simp [scanned, givesUp, entry]

/-- V-Q7: the entry at four attempts stands behind one that is sent. -/
theorem witness_StickGivesUpOnAnUnprovenLink :
    scanned [entry pktC 0 false 0 0, entry pktA 0 false 0 4] =
        [entry pktC 0 false 0 0] ++ entry pktA 0 false 0 4 :: [] ∧
      (∀ x ∈ [entry pktC 0 false 0 0], ¬ givesUp false x) ∧ givesUp false (entry pktA 0 false 0 4) := by
  simp [scanned, givesUp, entry]

/-- S5: B is sync behind A. -/
theorem witness_SyncEntryHoldsBackWhatIsBehind :
    (queued [entry pktA 1 false 0 0, entry pktB 1 true 0 0, entry pktC 1 false 0 0] false).txq.queue =
        [entry pktA 1 false 0 0] ++ entry pktB 1 true 0 0 :: [entry pktC 1 false 0 0] ∧
      [entry pktA 1 false 0 0] ≠ [] ∧ (entry pktB 1 true 0 0).sync = true := by decide

/-- V-Q10: no equal entry; an equal entry with another before it. -/
theorem witness_RmmatchRemovesTheFirstEqualEntry :
    (∀ e ∈ (queued [entry pktA 1 false 0 0] false).txq.queue, e.bytes ≠ pktC) ∧
      (queued [entry pktA 1 false 0 0, entry pktC 1 false 0 0] false).txq.queue =
        [entry pktA 1 false 0 0] ++ entry pktC 1 false 0 0 :: [] ∧
      (∀ x ∈ [entry pktA 1 false 0 0], x.bytes ≠ pktC) ∧ (entry pktC 1 false 0 0).bytes = pktC := by decide

/-- Both states of the link. -/
theorem witness_GiveUpLaw :
    (queued [entry pktA 1 false 0 0] false).txq.queue = [entry pktA 1 false 0 0] ∧
      (entry pktA 1 false 0 0).countdown = 1 ∧ (entry pktA 1 false 0 0).attempts = 0 ∧
      (queued [entry pktA 1 false 0 0] false).txq.linkGood = false ∧
      (queued [entry pktA 1 false 0 0] true).txq.linkGood = true ∧ 0 < 41 := by decide

/-- A proven link that stays proven; an unproven one that an echo proves. -/
theorem witness_LinkGoodIsLatched :
    (∃ t, exec .discard (queued [] true) = .next t ∧ (queued [] true).txq.linkGood = true) ∧
      ∃ t, exec (.rmmatch pktA) (queued [entry pktA 1 false 0 0] false) = .next t ∧
        (queued [entry pktA 1 false 0 0] false).txq.linkGood = false ∧ t.txq.linkGood = true ∧ Instr.rmmatch pktA ≠ .reset :=
  ⟨⟨_, rfl, rfl⟩, _, rfl, rfl, by decide, by decide⟩

theorem witness_GiveupExcludesBusyAndProvenLink :
    ∃ t, exec clearStick (queued [entry pktA 1 false 0 4] true) = .next t ∧
      (queued [entry pktA 1 false 0 4] true).txq.linkGood = true := ⟨_, rfl, rfl⟩

/-- One operation for each group it writes. -/
theorem witness_EachGroupIsWrittenByItsOwners :
    (∃ t, exec (.rxbyte 0x50 0) State.reset = .next t ∧ t.rxc ≠ State.reset.rxc) ∧
      (∃ t, exec (.rmmatch pktA) (queued [entry pktA 1 false 0 0] false) = .next t ∧
        t.txq ≠ (queued [entry pktA 1 false 0 0] false).txq) ∧
      (∃ t, exec (.frame []) State.reset = .next t ∧ t.freeCount ≠ State.reset.freeCount) ∧
      ∃ t, exec (.cycle cyclePkt) State.reset = .next t ∧ t.dev ≠ State.reset.dev := by
  refine ⟨⟨_, rfl, by decide⟩, ⟨_, rfl, by decide⟩, ⟨_, rfl, by decide⟩, _, rfl, fun h => ?_⟩
  have := congrArg Dev.videoSource h
  revert this
  decide

theorem witness_OutputTraceOnlyGrows :
    ∃ t, exec clearStick (queued [entry pktA 1 false 0 0] false) = .next t ∧ clearStick ≠ .reset ∧
      t.out = [.tx pktA, .observe pktA, .txFlush] := ⟨_, rfl, by decide, by decide⟩

/-- Equal sources; sources that differ while the camera shows. -/
theorem witness_SourcesDifferOnlyInReverse :
    (∃ t, exec (.gear gearReverse) State.reset = .next t ∧ (∀ v b, Instr.gear gearReverse ≠ .setsrc v b) ∧
      State.reset.dev.videoSource = State.reset.dev.savedSource) ∧
      ∃ t, exec (.gear gearOther) busy = .next t ∧ (∀ v b, Instr.gear gearOther ≠ .setsrc v b) ∧
        busy.dev.videoSource = .camera ∧ busy.dev.videoSource ≠ busy.dev.savedSource :=
  ⟨⟨_, rfl, nofun, rfl⟩, _, rfl, nofun, rfl, by decide⟩

/-- A step that performs a DTICK from a state within the bounds. -/
theorem witness_StepKeepsTheBounds :
    busy.Inv Config.pibus ∧ ∃ t, step busy = .next t ∧ t.rxc.cursor = 0 ∧ t.dev.idleCounter = 1 :=
  ⟨busy_inv, stepped busy, rfl, by decide, by decide⟩

theorem witness_LevelOutputsFollowTheState :
    (∃ t, exec .reset busy = .next t) ∧
      (levels Config.pibus busy).video = (levels Config.pibus (after (.setsrc .camera true) State.reset)).video :=
  ⟨⟨_, rfl⟩, rfl⟩

/-- The controller without a queue and the host without a controller (00_scope.md R4). -/
theorem witness_TickDispatchRemovalAndCompletionSkipAbsentUnits :
    ({ Config.pibus with hasDev := false } : Params).hasDev = false ∧
      ({ Config.pibus with hasTxq := false } : Params).hasTxq = false := ⟨rfl, rfl⟩

/-- V-RX8: a wrong and a right checksum. -/
theorem witness_ChecksumVerificationIsAParameter :
    ({ Config.pibus with rxVerifyChecksum := true } : Params).rxVerifyChecksum = true ∧
      (let s := holding [0xF0, 0x04, 0xFF, 0x48, 0x08, 0x4C]; verified (s.rxc.acc.take s.rxc.cursor) = false) ∧
      (let s := holding cyclePkt; verified (s.rxc.acc.take s.rxc.cursor) = true) ∧
      Config.pibus.rxVerifyChecksum = false := ⟨rfl, by decide, by decide, rfl⟩

/-- No frame; a frame that decodes; a frame that does not. -/
theorem witness_StepRunsTheDecodedEvent :
    State.reset.inbox = [] ∧ busy.inbox = { kind := .operation, bytes := [0x01, 1] } :: [] ∧
      decode Config.pibus { kind := .operation, bytes := [0x01, 1] } = .ok (.dtick true) ∧
      (presenting { kind := .operation, bytes := [0x01, 2] }).inbox = { kind := .operation, bytes := [0x01, 2] } :: [] ∧
      decode Config.pibus { kind := .operation, bytes := [0x01, 2] } = .error .operandValue := ⟨rfl, rfl, rfl, rfl, rfl⟩

/-- Operands at the ends of their ranges; byte sequences of several sizes, none among them; a reaction. -/
theorem witness_DecodeOfEncodeIsTheInstruction :
    (Instr.rxbyte 0xFF 7).wf Config.pibus = true ∧ (Instr.dispatch noReactionPkt).wf Config.pibus = true ∧
      (Instr.frame []).wf Config.pibus = true ∧ (Instr.ledreq none).wf Config.pibus = true ∧
      (Instr.dispatch pkt32).wf Config.pibus = true ∧ (Instr.txemit (List.replicate 31 0)).wf Config.pibus = true ∧
      (Instr.cycle cyclePkt).wf Config.pibus = true ∧ (Instr.gear gearOther).wf T0 = true := by decide

/-- An operation, a reaction, and a packet that selects no row. -/
theorem witness_EncodeOfDecodeIsTheFrameUnlessNoRowMatches :
    decode Config.pibus { kind := .operation, bytes := [0x17, 2, 1] } = .ok (.setsrc .camera true) ∧
      decode T0 { kind := .packet, bytes := fobReleased } = .ok (.fob fobReleased) ∧
      decode T0 { kind := .packet, bytes := noReactionPkt } = .ok (.dispatch noReactionPkt) := ⟨rfl, rfl, rfl⟩

/-- Each clause, at the ends of its operand ranges: a packet frame with no byte; the last fault bits; an ENQ with no bytes and one
with both bits set; RMTAG and XSIZE; no byte after the identifier; the codes NONE and BLINK_ALL of LEDREQ. -/
theorem witness_ByteSequencesAreNeverRefused :
    (presenting { kind := .packet, bytes := [] }).inbox = { kind := .packet, bytes := [] } :: [] ∧
      ((7 : Byte).toNat < 8 ∧ (presenting (opFrame .rxbyte [0xFF, 7])).inbox = [{ kind := .operation, bytes := [0x00, 0xFF, 7] }]) ∧
      ((0 : Byte).toNat < 2 ∧ (1 : Byte).toNat < 2 ∧
        (presenting (opFrame .enq [0, 0xFF, 0])).inbox = [{ kind := .operation, bytes := 0x03 :: 0 :: 0xFF :: 0 :: [] }] ∧
        (presenting (opFrame .enq (1 :: 0 :: 1 :: pktA))).inbox =
          [{ kind := .operation, bytes := 0x03 :: 1 :: 0 :: 1 :: pktA }]) ∧
      ((presenting (opFrame .rmtag [0xFF])).inbox = [{ kind := .operation, bytes := [0x05, 0xFF] }] ∧
        (presenting (opFrame .xsize [0xFF])).inbox = [{ kind := .operation, bytes := [0x11, 0xFF] }]) ∧
      ((0x12 : Byte) ∈ ([0x04, 0x10, 0x12, 0x13, 0x16, 0x19] : List Byte) ∧
        (presenting (opFrame .frame [])).inbox = [{ kind := .operation, bytes := 0x12 :: [] }]) ∧
      (0 : Byte).toNat < 5 ∧ (4 : Byte).toNat < 5 ∧
        (presenting (opFrame .ledreq [0])).inbox = [{ kind := .operation, bytes := [0x18, 0] }] ∧
        (presenting (opFrame .ledreq [4])).inbox = [{ kind := .operation, bytes := [0x18, 4] }] := by decide

/-- The four ends of the two ranges. -/
theorem witness_UnassignedIdentifiersAreRefused :
    (0x08 ≤ (0x08 : Byte).toNat ∧ (0x0F : Byte).toNat ≤ 0x0F) ∧ (0x1A ≤ (0x1A : Byte).toNat ∧ (0x1F : Byte).toNat ≤ 0x1F) ∧
      (presenting { kind := .operation, bytes := [0x08] }).inbox = { kind := .operation, bytes := 0x08 :: [] } :: [] := by
  decide

end Sys2Proof.Tests
end

section
/-! PROOFS. What every operation does to TXQ state (10_state.md R20, R36, R37), and the statement about `link_good`. -/

namespace Sys2Proof.Machine

open Sys2Proof

/-- The operations that perform an RMMATCH: RMMATCH itself, and those that can complete a packet (41_receive.md R115). -/
def performsRmmatch (i : Instr) : Prop := (∃ b, i = .rmmatch b) ∨ (∃ d f, i = .rxbyte d f) ∨ i = .complete

/-- An RMMATCH never clears `link_good` (44_txqueue.md R182). -/
theorem removeMatching_linkGood_of_linkGood (c : Params) (b : Packet) (q : Txq) (h : q.linkGood = true) :
    (removeMatching c b q).linkGood = true := by
  rcases removeMatching_cases c b q with e | ⟨_, _, _, _, _, _, e⟩
  · rwa [e]
  · rw [e]

/-- An RMMATCH that sets `link_good` removes exactly one entry (44_txqueue.md R182). -/
theorem removeMatching_length_of_sets_linkGood (c : Params) (b : Packet) (q : Txq) (h : q.linkGood = false)
    (h' : (removeMatching c b q).linkGood = true) : (removeMatching c b q).queue.length + 1 = q.queue.length := by
  rcases removeMatching_cases c b q with e | ⟨before, x, after, hq, _, _, e⟩
  · rw [e, h] at h'
    cases h'
  · rw [e, hq]
    simp only [List.length_append, List.length_cons]
    omega

/-- ENQ does not touch `link_good` (44_txqueue.md R170, R171). -/
@[simp] theorem enqueue_linkGood (c : Params) (b : Packet) (y : Bool) (g : Tag) (p : Bool) (s : State) :
    (enqueue c b y g p s).txq.linkGood = s.txq.linkGood := by
  rcases enqueue_cases c b y g p s with ⟨_, e⟩ | ⟨_, _, _, e⟩ <;> rw [e] <;> rfl

/-- A DTICK does not touch the queue (43_tick.md R150). -/
@[simp] theorem deviceTick_pibus_txq (l : Bool) (s : State) : (deviceTick Config.pibus l s).txq = s.txq := by
  rw [deviceTick_pibus]

/-- A byte arrival leaves the queue alone or performs the RMMATCH of a completion (41_receive.md R110, R115). -/
theorem receiveByte_txq_cases (d : Byte) (f : BitVec 3) (s : State) :
    (receiveByte Config.pibus d f s).txq = s.txq ∨
      ∃ b, (receiveByte Config.pibus d f s).txq = removeMatching Config.pibus b s.txq := by
  rcases receiveByte_cases d f s with ⟨_, e⟩ | ⟨_, _, e⟩ | ⟨_, _, _, e⟩ | ⟨_, _, _, e⟩
  · exact .inl (by rw [e])
  · exact .inl (by rw [e, State.emit_txq])
  · exact .inr ⟨_, by rw [e, completePacket_pibus, State.setRxc_txq]⟩
  · exact .inl (by rw [e, State.setRxc_txq])

/-- The queue after any operation: untouched, or what the queue operation the spec names makes of it (10_state.md R20). -/
theorem exec_txq_cases (i : Instr) (s t : State) (h : exec i s = .next t) :
    t.txq = s.txq ∨
    (performsRmmatch i ∧ ∃ b, t.txq = removeMatching Config.pibus b s.txq) ∨
    (∃ b y g p, i = .enq b y g p ∧ t.txq = (enqueue Config.pibus b y g p s).txq) ∨
    (∃ ct cts li rxe, i = .stick ct cts li rxe ∧ t.txq = (serviceTick Config.pibus ct cts li rxe s).txq) ∨
    (∃ g, i = .rmtag g ∧ t.txq = removeTag g s.txq) ∨
    (i = .discard ∧ t.txq = discardAll s.txq) ∨
    (i = .reset ∧ t.txq = State.reset.txq) := by
  cases i with
  | rxbyte d f =>
    cases h
    rcases receiveByte_txq_cases d f s with e | ⟨b, e⟩
    · exact .inl e
    · exact .inr (.inl ⟨.inr (.inl ⟨d, f, rfl⟩), b, e⟩)
  | complete =>
    cases h
    exact .inr (.inl ⟨.inr (.inr rfl), _, by rw [State.answer_txq, completePacket_pibus]⟩)
  | rmmatch b => cases h; exact .inr (.inl ⟨.inl ⟨b, rfl⟩, b, rfl⟩)
  | enq b y g p => cases h; exact .inr (.inr (.inl ⟨b, y, g, p, rfl, rfl⟩))
  | stick ct cts li rxe => cases h; exact .inr (.inr (.inr (.inl ⟨ct, cts, li, rxe, rfl, rfl⟩)))
  | rmtag g => cases h; exact .inr (.inr (.inr (.inr (.inl ⟨g, rfl, rfl⟩))))
  | discard => cases h; exact .inr (.inr (.inr (.inr (.inr (.inl ⟨rfl, rfl⟩)))))
  | reset => cases h; exact .inr (.inr (.inr (.inr (.inr (.inr ⟨rfl, rfl⟩)))))
  | dtick l => cases h; exact .inl (deviceTick_pibus_txq l s)
  | frame b =>
    obtain ⟨_, _, e, _⟩ := execFrame_cases b s
    cases e.symm.trans h
    exact .inl rfl
  | verify p =>
    obtain ⟨_, _, e, _⟩ := execVerify_cases p s
    cases e.symm.trans h
    exact .inl rfl
  | ledreq code =>
    obtain ⟨_, _, e, _⟩ := execLedreq_cases code s
    cases e.symm.trans h
    exact .inl rfl
  | chk _ | xsize _ | accreset | dispatch _ | setsrc _ _ | txemit _ | cycle _ | gear _ | fob _ | cdcEnter _
  | cdcExitBtn _ | cdcExitMenu _ => cases h; exact .inl rfl

/-- Apart from RESET, an operation keeps `link_good` or performs an RMMATCH on the queue (10_state.md R37). -/
theorem exec_linkGood_cases (i : Instr) (s t : State) (h : exec i s = .next t) (hi : i ≠ .reset) :
    t.txq.linkGood = s.txq.linkGood ∨
      (performsRmmatch i ∧ ∃ b, t.txq = removeMatching Config.pibus b s.txq) := by
  rcases exec_txq_cases i s t h with e | e | ⟨b, y, g, p, _, e⟩ | ⟨ct, cts, li, rxe, _, e⟩ | ⟨g, _, e⟩ | ⟨_, e⟩ | ⟨e, _⟩
  · exact .inl (by rw [e])
  · exact .inr e
  · exact .inl (by rw [e, enqueue_linkGood])
  · obtain ⟨_, _, _, _, hk⟩ := serviceTick_frame Config.pibus ct cts li rxe s
    exact .inl (by rw [e, hk])
  · exact .inl (by rw [e]; rfl)
  · exact .inl (by rw [e]; rfl)
  · exact absurd e hi

/-- Settles O41: apart from RESET `link_good` is written by an RMMATCH only, which sets it and never clears it. -/
theorem linkGoodIsLatched : Obligations.LinkGoodIsLatched := by
  unfold Obligations.LinkGoodIsLatched
  refine ⟨fun s => ⟨_, rfl, rfl⟩, fun i s t h hi => ?_⟩
  rcases exec_linkGood_cases i s t h hi with e | ⟨hp, b, e⟩
  · refine ⟨fun hs => e.trans hs, fun hs ht => ?_⟩
    rw [e, hs] at ht
    cases ht
  · rw [e]
    exact ⟨removeMatching_linkGood_of_linkGood _ b _,
      fun hs ht => ⟨hp, removeMatching_length_of_sets_linkGood _ b _ hs ht⟩⟩

end Sys2Proof.Machine
end

section
/-! PROOFS. What a pattern match compares (30_encoding.md R76), and the statement about it. -/

namespace Sys2Proof.Machine

open Sys2Proof

/-- A match is equality of the sizes and of the masked bytes below the checksum offset (30_encoding.md R76). -/
theorem patMatches_iff (pat : Pattern) (pkt : Packet) :
    patMatches pat pkt = true ↔ pkt.length = pat.size ∧ ∀ i, i < pat.size - 1 →
      packetByte pkt i &&& packetByte pat.mask i = packetByte pat.want i &&& packetByte pat.mask i := by
  simp only [patMatches, Bool.and_eq_true, List.all_eq_true, List.mem_range, beq_iff_eq]

/-- Appending bytes leaves the earlier ones in place. -/
theorem packetByte_append_left (p q : Packet) (i : Nat) (h : i < p.length) : packetByte (p ++ q) i = packetByte p i :=
  List.getD_append p q 0 i h

/-- Whether `p ++ [x]` matches is a fact about the body `p` alone. -/
theorem patMatches_append_singleton_iff (pat : Pattern) (p : Packet) (x : Byte) :
    patMatches pat (p ++ [x]) = true ↔ p.length + 1 = pat.size ∧ ∀ i, i < pat.size - 1 →
      packetByte p i &&& packetByte pat.mask i = packetByte pat.want i &&& packetByte pat.mask i := by
  rw [patMatches_iff, List.length_append, List.length_singleton]
  refine and_congr_right fun hsize => forall₂_congr fun i hi => ?_
  have hbody : i < p.length := by omega
  rw [packetByte_append_left p [x] i hbody]

/-- Settles O15: the body `p` decides whether `p ++ [x]` matches, so the checksum byte `x` does not. -/
theorem patternMatchIsMaskedEquality : Obligations.PatternMatchIsMaskedEquality := by
  unfold Obligations.PatternMatchIsMaskedEquality
  refine fun pat _ => ⟨patMatches_iff pat, fun p x y => Bool.eq_iff_iff.mpr ?_⟩
  rw [patMatches_append_singleton_iff, patMatches_append_singleton_iff]

end Sys2Proof.Machine
end

section
/-! PROOFS. The answers of CHK, XSIZE, FRAME and VERIFY (40_framing.md), and the statements about them. -/

namespace Sys2Proof.Machine

open Sys2Proof

/-! What each operation answers -/

@[simp] theorem exec_chk (b : Packet) (s : State) : exec (.chk b) s = .next { s with result := .byte (checksum b) } := rfl

theorem exec_xsize (len : Byte) (s : State) :
    exec (.xsize len) s = .next { s with result := .size (len.toNat + 2) } := rfl

theorem exec_frame_of_ne_nil (b : Packet) (s : State) (h : b ≠ []) :
    exec (.frame b) s = .next { s with result := .bytes (framed b) } := execFrame_of_ne_nil b s h

theorem exec_verify_of_ne_nil (p : Packet) (s : State) (h : p ≠ []) :
    exec (.verify p) s = .next { s with result := .bool (verified p) } := execVerify_of_ne_nil p s h

/-- The answer of CHK is determined: it is the checksum and no other byte. -/
theorem exec_chk_eq_next_iff (b : Packet) (s : State) (x : Byte) :
    exec (.chk b) s = .next { s with result := .byte x } ↔ checksum b = x := by
  simp

/-! The checksum as parity, and what an XOR at one offset does to it -/

/-- The parity of a count of true bits is their XOR: one more element flips it exactly when its bit is set. -/
theorem checksum_getLsbD (b : Packet) (i : Nat) :
    (checksum b).getLsbD i = decide (b.countP (fun y => y.getLsbD i) % 2 = 1) := by
  induction b with
  | nil => simp
  | cons y b ih =>
    rw [checksum_cons, BitVec.getLsbD_xor, ih, List.countP_cons]
    cases y.getLsbD i
    · simp
    · simp only [Bool.true_xor, if_true, ← decide_not, decide_eq_decide]
      omega

/-- XOR of `d` into the byte at one offset is XOR of `d` into the checksum. -/
theorem checksum_set_xor (p : Packet) (i : Nat) (d : Byte) (h : i < p.length) :
    checksum (p.set i (p.getD i 0 ^^^ d)) = checksum p ^^^ d := by
  induction p generalizing i with
  | nil => cases h
  | cons x p ih =>
    cases i with
    | zero =>
      rw [List.set_cons_zero, List.getD_cons_zero, checksum_cons, checksum_cons]
      ac_rfl
    | succ i =>
      rw [List.set_cons_succ, List.getD_cons_succ, checksum_cons, checksum_cons, ih i (Nat.lt_of_succ_lt_succ h),
        BitVec.xor_assoc]

/-- XOR of `d` into the bytes at two offsets cancels in the checksum. -/
theorem checksum_set_xor_set_xor (p : Packet) (i k : Nat) (d : Byte) (hik : i < k) (hk : k < p.length) :
    checksum ((p.set i (p.getD i 0 ^^^ d)).set k (p.getD k 0 ^^^ d)) = checksum p := by
  have hkept : (p.set i (p.getD i 0 ^^^ d)).getD k 0 = p.getD k 0 := by
    simp only [List.getD_eq_getElem?_getD, List.getElem?_set_ne (Nat.ne_of_lt hik)]
  rw [← hkept, checksum_set_xor _ k d (by rwa [List.length_set]), checksum_set_xor p i d (hik.trans hk), BitVec.xor_assoc,
    BitVec.xor_self, BitVec.xor_zero]

/-! VERIFY as a fact about the checksum alone -/

theorem verified_iff_getLast? (p : Packet) : verified p = true ↔ p.getLast? = some (checksum p.dropLast) := beq_iff_eq

/-- VERIFY of packets with the same checksum is the same. -/
theorem verified_congr (p q : Packet) (hp : p ≠ []) (hq : q ≠ []) (h : checksum p = checksum q) : verified p = verified q := by
  rw [Bool.eq_iff_iff, verified_iff_checksum_zero p hp, verified_iff_checksum_zero q hq, h]

/-- A non-zero XOR into one byte of a verified packet makes VERIFY false (40_framing.md R103). -/
theorem verified_set_xor_eq_false (p : Packet) (i : Nat) (d : Byte) (h : i < p.length) (hd : d ≠ 0)
    (hv : verified p = true) : verified (p.set i (p.getD i 0 ^^^ d)) = false := by
  have hp : p ≠ [] := List.ne_nil_of_length_pos (Nat.zero_lt_of_lt h)
  have hzero : checksum p = 0 := (verified_iff_checksum_zero p hp).mp hv
  rw [← Bool.not_eq_true, verified_iff_checksum_zero _ (mt (List.set_eq_nil_iff _ _).mp hp), checksum_set_xor p i d h, hzero]
  simpa using hd

theorem twoPow_ne_zero (w j : Nat) (h : j < w) : BitVec.twoPow w j ≠ 0 := fun e => by
  have hbit : (BitVec.twoPow w j).getLsbD j = true := by simp [h]
  rw [e] at hbit
  simp at hbit

/-! The statements -/

/-- Settles O1: the bits of the checksum are parities, and a byte XORed with itself is 0. -/
theorem chkIsBitwiseXorOfAllBytes : Obligations.ChkIsBitwiseXorOfAllBytes := by
  unfold Obligations.ChkIsBitwiseXorOfAllBytes
  refine fun b s => ⟨checksum b, exec_chk b s, fun i _ => checksum_getLsbD b i, ?_, ?_, ?_⟩
  · rintro rfl
    exact checksum_nil
  · rintro y rfl
    simp
  · simp

/-- Settles O2. -/
theorem xsizeAddsTwoWithoutWrap : Obligations.XsizeAddsTwoWithoutWrap := by
  unfold Obligations.XsizeAddsTwoWithoutWrap
  intro len s
  have hbyte : len.toNat < 256 := len.isLt
  exact ⟨exec_xsize len s, by omega, by omega⟩

/-- Settles O3: FRAME reads only the bytes before the placeholder. -/
theorem frameFillsTheTrailingChecksum : Obligations.FrameFillsTheTrailingChecksum := by
  unfold Obligations.FrameFillsTheTrailingChecksum
  intro b s hb
  have hplaceholder (y : Byte) : exec (.frame (b.dropLast ++ [y])) s = .next { s with result := .bytes (framed b) } := by
    rw [exec_frame_of_ne_nil _ s (List.concat_ne_nil y b.dropLast), framed_concat, framed]
  exact ⟨checksum b.dropLast, framed b, exec_chk _ s, rfl, framed_length b hb, exec_frame_of_ne_nil b s hb, hplaceholder,
    hplaceholder _⟩

/-- Settles O4: VERIFY is the checksum being 0, into which a flipped bit enters once and a bit flipped in two bytes twice. -/
theorem verifyComparesTheTrailingChecksum : Obligations.VerifyComparesTheTrailingChecksum := by
  unfold Obligations.VerifyComparesTheTrailingChecksum
  intro p s hp
  refine ⟨verified p, exec_verify_of_ne_nil p s hp, ?_, ?_, fun i j hi hj hv => ?_, fun i k j hik hk _ => ?_⟩
  · simp only [exec_chk_eq_next_iff, verified_iff_getLast?, exists_eq_left']
  · rw [exec_chk_eq_next_iff, verified_iff_checksum_zero p hp]
  · rw [exec_verify_of_ne_nil _ s (mt (List.set_eq_nil_iff _ _).mp hp),
      verified_set_xor_eq_false p i _ hi (twoPow_ne_zero 8 j hj) hv]
  · have hne : (p.set i (p.getD i 0 ^^^ BitVec.twoPow 8 j)).set k (p.getD k 0 ^^^ BitVec.twoPow 8 j) ≠ [] := by
      simpa using hp
    rw [exec_verify_of_ne_nil _ s hne, verified_congr _ p hne hp (checksum_set_xor_set_xor p i k _ hik hk)]

end Sys2Proof.Machine
end

section
/-! PROOFS. What every operation does to RXC state (10_state.md R20), and the statements about receiving (41_receive.md). -/

namespace Sys2Proof.Machine

open Sys2Proof

/-! A byte arrival and the completion test -/

/-- Storing a byte writes ACC at the cursor and nowhere else (41_receive.md R113). -/
theorem storeByte_acc_getElem? (r : Rxc) (d : Byte) (h : r.cursor < r.acc.length) :
    (storeByte r d).acc[r.cursor]? = some d ∧ ∀ i, i ≠ r.cursor → (storeByte r d).acc[i]? = r.acc[i]? :=
  ⟨List.getElem?_set_self h, fun _ hi => List.getElem?_set_ne hi.symm⟩

/-- A completion leaves the accumulator as an ACCRESET does (41_receive.md R115). -/
@[simp] theorem completePacket_pibus_rxc (s : State) : (completePacket Config.pibus s).rxc = accReset s.rxc := by
  rw [completePacket_pibus]

theorem exec_rxbyte (d : Byte) (f : BitVec 3) (s : State) :
    exec (.rxbyte d f) s = .next ((receiveByte Config.pibus d f s).answer .nothing) := rfl

theorem exec_complete (s : State) : exec .complete s = .next ((completePacket Config.pibus s).answer .nothing) := rfl

/-- A faulty byte is lost without any effect (41_receive.md R111). -/
theorem exec_rxbyte_of_fault (d : Byte) (f : BitVec 3) (s : State) (hf : f ≠ 0) :
    exec (.rxbyte d f) s = .next (s.answer .nothing) := by
  rcases receiveByte_cases d f s with ⟨_, e⟩ | ⟨h0, _⟩ | ⟨h0, _⟩ | ⟨h0, _⟩
  · rw [exec_rxbyte, e]
  all_goals exact absurd h0 hf

/-- Below the capacity a fault-free byte is stored, and then completes the packet or loads the timeout, as the completion
test on the stored accumulator says (41_receive.md R113, R114). -/
theorem exec_rxbyte_of_cursor_lt (d : Byte) (s : State) (hc : s.rxc.cursor < 32) :
    (isComplete Config.pibus (storeByte s.rxc d) = true ∧
      exec (.rxbyte d 0) s = .next ((completePacket Config.pibus (s.setRxc (storeByte s.rxc d))).answer .nothing)) ∨
    (isComplete Config.pibus (storeByte s.rxc d) = false ∧
      exec (.rxbyte d 0) s = .next ((s.setRxc { storeByte s.rxc d with rxTimeout := 1 }).answer .nothing)) := by
  rcases receiveByte_cases d 0 s with ⟨h0, _⟩ | ⟨_, hfull, _⟩ | ⟨_, _, hk, e⟩ | ⟨_, _, hk, e⟩
  · exact absurd rfl h0
  · exact absurd hfull hc.ne
  · exact .inl ⟨hk, by rw [exec_rxbyte, e]⟩
  · exact .inr ⟨hk, by rw [exec_rxbyte, e]⟩

/-- The bytes that complete a packet are those stored below the capacity whose completion test holds. -/
theorem completesPacket_rxbyte_iff (d : Byte) (s : State) :
    completesPacket (.rxbyte d 0) s ↔ s.rxc.cursor < 32 ∧ isComplete Config.pibus (storeByte s.rxc d) = true := by
  rw [isComplete_pibus]
  constructor
  · rintro ⟨_, hd, h⟩
    cases hd
    exact h
  · exact fun h => ⟨d, rfl, h⟩

/-! The accumulator under any operation -/

/-- The accumulator after any operation: untouched, or what the operation the spec names makes of it (10_state.md R20). -/
theorem exec_rxc_cases (i : Instr) (s t : State) (h : exec i s = .next t) :
    t.rxc = s.rxc ∨
    (∃ d, i = .rxbyte d 0 ∧ t.rxc = (receiveByte Config.pibus d 0 s).rxc) ∨
    (∃ l, i = .dtick l ∧ t.rxc = timeoutStep s.rxc) ∨
    ((i = .accreset ∨ i = .complete) ∧ t.rxc = accReset s.rxc) ∨
    (i = .reset ∧ t.rxc = State.reset.rxc) := by
  cases i with
  | rxbyte d f =>
    by_cases hf : f = 0
    · subst hf
      cases h
      exact .inr (.inl ⟨d, rfl, rfl⟩)
    · cases (exec_rxbyte_of_fault d f s hf).symm.trans h
      exact .inl rfl
  | dtick l => cases h; exact .inr (.inr (.inl ⟨l, rfl, by rw [State.answer_rxc, deviceTick_pibus]⟩))
  | accreset => cases h; exact .inr (.inr (.inr (.inl ⟨.inl rfl, rfl⟩)))
  | complete => cases h; exact .inr (.inr (.inr (.inl ⟨.inr rfl, completePacket_pibus_rxc s⟩)))
  | reset => cases h; exact .inr (.inr (.inr (.inr ⟨rfl, rfl⟩)))
  | enq b y g p =>
    cases h
    rcases enqueue_cases Config.pibus b y g p s with ⟨_, e⟩ | ⟨_, _, _, e⟩ <;> exact .inl (by rw [e]; rfl)
  | stick ct cts li rxe =>
    cases h
    obtain ⟨hrxc, _⟩ := serviceTick_frame Config.pibus ct cts li rxe s
    exact .inl hrxc
  | frame b =>
    obtain ⟨_, _, e, _⟩ := execFrame_cases b s
    cases e.symm.trans h
    exact .inl rfl
  | verify p =>
    obtain ⟨_, _, e, _⟩ := execVerify_cases p s
    cases e.symm.trans h
    exact .inl rfl
  | ledreq code =>
    obtain ⟨_, _, e, _⟩ := execLedreq_cases code s
    cases e.symm.trans h
    exact .inl rfl
  | chk _ | xsize _ | rmmatch _ | rmtag _ | discard | dispatch _ | setsrc _ _ | txemit _ | cycle _ | gear _ | fob _
  | cdcEnter _ | cdcExitBtn _ | cdcExitMenu _ => cases h; exact .inl rfl

/-! A completion for any choice of the parameters -/

/-- A dropped packet only resets the accumulator (41_receive.md R116). -/
theorem completePacket_of_dropped (c : Params) (s : State) (hc : c.rxVerifyChecksum = true)
    (hv : verified (accumulated s.rxc) = false) : completePacket c s = s.setRxc (accReset s.rxc) := by
  simp [completePacket, hc, hv]

/-- A packet that is not dropped runs the whole sequence: DISPATCH and the idle counter, RMMATCH, ACCRESET
(41_receive.md R115, R116). -/
theorem completePacket_of_accepted (c : Params) (s : State)
    (h : c.rxVerifyChecksum = true → verified (accumulated s.rxc) = true) :
    completePacket c s =
      { s with
        rxc := accReset s.rxc
        dev := completeDev c (accumulated s.rxc) s.dev
        txq := removeMatching c (accumulated s.rxc) s.txq } := by
  have htest : (c.rxVerifyChecksum && !verified (accumulated s.rxc)) = false := by simpa using h
  simp only [completePacket, htest]
  rfl

/-! The statements -/

/-- Settles O6. -/
theorem faultyByteChangesNothing : Obligations.FaultyByteChangesNothing := by
  unfold Obligations.FaultyByteChangesNothing
  exact exec_rxbyte_of_fault

/-- Settles O9: the completion test reads the stored accumulator, whose ACC a completion leaves in place. -/
theorem completionTestIsDeclaredSize : Obligations.CompletionTestIsDeclaredSize := by
  unfold Obligations.CompletionTestIsDeclaredSize
  intro d s hc
  rcases exec_rxbyte_of_cursor_lt d s hc with ⟨hk, e⟩ | ⟨hk, e⟩ <;> refine ⟨_, e, ?_⟩
  · have hsize := (isComplete_pibus _).mp hk
    rw [State.answer_rxc, completePacket_pibus_rxc, State.setRxc_rxc, accReset_acc, accReset_cursor]
    rw [storeByte_cursor] at hsize
    exact ⟨iff_of_true rfl hsize, fun _ => by omega, fun h0 => absurd rfl h0⟩
  · have hsize := mt (isComplete_pibus _).mpr (Bool.eq_false_iff.mp hk)
    have hgrown : s.rxc.cursor + 1 ≠ 0 := Nat.succ_ne_zero _
    exact ⟨iff_of_false hgrown hsize, fun h0 => absurd h0 hgrown, fun _ => rfl⟩

/-- Settles O8: a completion resets the cursor and the timeout only, so ACC is the stored one in either case. -/
theorem byteIsStoredAtTheCursor : Obligations.ByteIsStoredAtTheCursor := by
  unfold Obligations.ByteIsStoredAtTheCursor
  intro d s hlen hc
  have hstored : (storeByte s.rxc d).acc.length = 32 := by rw [storeByte_acc, List.length_set, hlen]
  obtain ⟨hat, hother⟩ := storeByte_acc_getElem? s.rxc d (by omega)
  rcases exec_rxbyte_of_cursor_lt d s hc with ⟨hk, e⟩ | ⟨_, e⟩ <;> refine ⟨_, e, ?_⟩
  · rw [State.answer_rxc, completePacket_pibus_rxc, State.setRxc_rxc, accReset_acc]
    exact ⟨hstored, hat, hother, fun hn => absurd ((completesPacket_rxbyte_iff d s).mpr ⟨hc, hk⟩) hn⟩
  · exact ⟨hstored, hat, hother, fun _ => ⟨rfl, rfl, rfl, rfl, rfl, rfl, rfl⟩⟩

/-- Settles O10: the idle counter is cleared, which is below the threshold of power. -/
theorem completeRunsItsSequence : Obligations.CompleteRunsItsSequence := by
  unfold Obligations.CompleteRunsItsSequence
  refine fun s => ⟨_, _, rfl, rfl, ?_, rfl⟩
  rw [exec_complete, completePacket_pibus, accumulated_eq]
  rfl

/-- Settles O13: an accumulator that no operation named there touches keeps its cursor. -/
theorem accresetEmptiesWithoutClearing : Obligations.AccresetEmptiesWithoutClearing := by
  unfold Obligations.AccresetEmptiesWithoutClearing
  refine ⟨fun s => ⟨_, rfl, rfl, rfl⟩, fun i s t h hpos hzero => ?_⟩
  rcases exec_rxc_cases i s t h with e | ⟨d, hi, _⟩ | ⟨l, hi, _⟩ | ⟨hi | hi, _⟩ | ⟨hi, _⟩
  · rw [e] at hzero
    exact absurd hzero hpos.ne'
  · exact .inr (.inr (.inl ⟨d, hi⟩))
  · exact .inr (.inr (.inr (.inl ⟨l, hi⟩)))
  · exact .inl hi
  · exact .inr (.inl hi)
  · exact .inr (.inr (.inr (.inr hi)))

/-- Settles O52: with the flag set the checksum decides between a drop and the sequence that always runs without it. -/
theorem checksumVerificationIsAParameter : Obligations.ChecksumVerificationIsAParameter := by
  unfold Obligations.ChecksumVerificationIsAParameter
  intro c s
  rw [← accumulated_eq]
  refine ⟨fun hc hv => completePacket_of_dropped c s hc hv, fun _ hv => ?_, fun hc => ?_⟩
  · rw [completePacket_of_accepted c s (fun _ => hv), completePacket_of_accepted _ s (fun _ => hv)]
    rfl
  · exact completePacket_of_accepted c s (fun h => absurd (hc.symm.trans h) Bool.false_ne_true)

end Sys2Proof.Machine
end

section
/-! PROOFS. What the reactions, SETSRC and LEDREQ make of DEV state (42_reactions.md), and the statements about them. -/

namespace Sys2Proof.Machine

open Sys2Proof

/-! Each operation applies its DEV function and answers nothing; a CDC reaction is a SETSRC that saves -/

theorem exec_cycle (pkt : Packet) (s : State) :
    exec (.cycle pkt) s = .next ((s.setDev (reactCycle Config.pibus s.dev)).answer .nothing) := rfl

theorem exec_gear (pkt : Packet) (s : State) :
    exec (.gear pkt) s = .next ((s.setDev (reactGear pkt s.dev)).answer .nothing) := rfl

theorem exec_cdcEnter (pkt : Packet) (s : State) :
    exec (.cdcEnter pkt) s = .next ((s.setDev (setSource .companion true s.dev)).answer .nothing) := rfl

theorem exec_cdcExitBtn (pkt : Packet) (s : State) :
    exec (.cdcExitBtn pkt) s = .next ((s.setDev (setSource .bus true s.dev)).answer .nothing) := rfl

theorem exec_cdcExitMenu (pkt : Packet) (s : State) :
    exec (.cdcExitMenu pkt) s = .next ((s.setDev (setSource .bus true s.dev)).answer .nothing) := rfl

theorem exec_setsrc (v : VideoSource) (save : Bool) (s : State) :
    exec (.setsrc v save) s = .next ((s.setDev (setSource v save s.dev)).answer .nothing) := rfl

theorem exec_ledreq_some (p : LedPattern) (s : State) :
    exec (.ledreq (some p)) s = .next ((s.setDev (requestLed Config.pibus p s.dev)).answer .nothing) := rfl

/-! What the DEV functions write -/

theorem setSource_saved (v : VideoSource) (d : Dev) :
    setSource v true d = { d with videoSource := v, savedSource := v } := rfl

theorem setSource_unsaved (v : VideoSource) (d : Dev) : setSource v false d = { d with videoSource := v } := rfl

/-- CYCLE selects and saves the next source and requests its pattern (42_reactions.md R132). -/
theorem reactCycle_eq (c : Params) (d : Dev) :
    reactCycle c d = { d with
      videoSource := nextSource d.videoSource
      savedSource := nextSource d.videoSource
      ledReq := some (sourcePattern (nextSource d.videoSource))
      ledTimer := c.ledDisplayTicks
      ledClearPending := false } := by
  rw [reactCycle, setSource_saved, requestLed_eq]

/-- The order of the sources and the pattern of each, as a table (42_reactions.md R132). -/
theorem nextSource_mem (v : VideoSource) :
    (v, nextSource v, sourcePattern (nextSource v)) ∈
      [ (VideoSource.bus, VideoSource.companion, LedPattern.companion), (.companion, .camera, .camera), (.camera, .bus, .bus) ] := by
  cases v <;> decide

/-- The four bits of the gear read as a number (30_encoding.md R78). -/
theorem gearNibble_toNat (pkt : Packet) : (gearNibble pkt).toNat = (packetByte pkt 4).toNat / 16 := by
  have hbyte : (packetByte pkt 4).toNat < 256 := (packetByte pkt 4).isLt
  rw [gearNibble, BitVec.extractLsb'_toNat, Nat.shiftRight_eq_div_pow]
  exact Nat.mod_eq_of_lt (by omega)

/-- Gear 1, which is reverse, is the high nibble of byte 4 being 1 (30_encoding.md R78). -/
theorem gearNibble_eq_one_iff (pkt : Packet) (h : 4 < pkt.length) : gearNibble pkt = 1 ↔ pkt[4].toNat / 16 = 1 := by
  rw [← BitVec.toNat_inj, gearNibble_toNat, packetByte, List.getD_eq_getElem pkt 0 h]
  rfl

/-- GEAR writes the video source only (42_reactions.md R133). -/
theorem reactGear_eq (pkt : Packet) (d : Dev) (h : 4 < pkt.length) :
    reactGear pkt d = { d with videoSource := if pkt[4].toNat / 16 = 1 then .camera else d.savedSource } := by
  simp only [reactGear, gearNibble_eq_one_iff pkt h, setSource_unsaved]
  split <;> rfl

/-! The statements -/

/-- Settles O18: the table of sources names the next source and its pattern. -/
theorem cycleAdvancesTheSource : Obligations.CycleAdvancesTheSource := by
  unfold Obligations.CycleAdvancesTheSource
  refine fun pkt s => ⟨_, _, nextSource_mem s.dev.videoSource, ?_⟩
  rw [exec_cycle, reactCycle_eq]
  rfl

/-- Settles O19. -/
theorem gearForcesCameraOrRestores : Obligations.GearForcesCameraOrRestores := by
  unfold Obligations.GearForcesCameraOrRestores
  intro pkt s h
  rw [exec_gear, reactGear_eq pkt s.dev h]
  rfl

/-- Settles O21: each CDC reaction is a SETSRC that saves. -/
theorem cdcReactionsSelectAndSave : Obligations.CdcReactionsSelectAndSave := by
  unfold Obligations.CdcReactionsSelectAndSave
  intro pkt s
  rw [exec_cdcEnter, exec_cdcExitBtn, exec_cdcExitMenu, setSource_saved, setSource_saved]
  exact ⟨rfl, rfl, rfl⟩

/-- Settles O22: the lines are a function of the source that was written. -/
theorem setsrcWritesSourceAndLines : Obligations.SetsrcWritesSourceAndLines := by
  unfold Obligations.SetsrcWritesSourceAndLines
  refine fun v save s => ⟨_, exec_setsrc v save s, ?_, ?_⟩
  · rw [setSource_eq]
    rfl
  · rw [levels, videoLevels, State.answer_dev, State.setDev_dev, setSource_eq]

/-- Settles O23. -/
theorem ledreqRecordsTheRequest : Obligations.LedreqRecordsTheRequest := by
  unfold Obligations.LedreqRecordsTheRequest
  intro p s
  rw [exec_ledreq_some, requestLed_eq]
  rfl

end Sys2Proof.Machine
end

section
/-! PROOFS. What every operation does to DEV state (10_state.md R20), what a DTICK makes of its timers, and the statements
about them (43_tick.md R154, R155, R157). -/

namespace Sys2Proof.Machine

open Sys2Proof

/-! A DTICK and its timers -/

theorem exec_dtick (l : Bool) (s : State) :
    exec (.dtick l) s = .next ((deviceTick Config.pibus l s).answer .nothing) := rfl

@[simp] theorem deviceTick_pibus_relayTimer (l : Bool) (s : State) :
    (deviceTick Config.pibus l s).dev.relayTimer = s.dev.relayTimer - 1 := by
  rw [deviceTick_pibus]

@[simp] theorem deviceTick_pibus_holdTimer (l : Bool) (s : State) :
    (deviceTick Config.pibus l s).dev.holdTimer = s.dev.holdTimer - 1 := by
  rw [deviceTick_pibus]

@[simp] theorem deviceTick_pibus_holdArmed (l : Bool) (s : State) :
    (deviceTick Config.pibus l s).dev.holdArmed = s.dev.holdArmed := by
  rw [deviceTick_pibus]

@[simp] theorem deviceTick_pibus_secDiv (l : Bool) (s : State) :
    (deviceTick Config.pibus l s).dev.secDiv = (secondStep Config.pibus s.dev).secDiv := by
  rw [deviceTick_pibus]

@[simp] theorem deviceTick_pibus_idleCounter (l : Bool) (s : State) :
    (deviceTick Config.pibus l s).dev.idleCounter = (secondStep Config.pibus s.dev).idleCounter := by
  rw [deviceTick_pibus]

/-- The prescaler and the seconds on this hardware, as one case distinction (43_tick.md R154). -/
theorem secondStep_pibus_counters (d : Dev) :
    ((secondStep Config.pibus d).secDiv, (secondStep Config.pibus d).idleCounter) =
      if 150 ≤ d.secDiv + 1 then (0, if d.idleCounter < 360 then d.idleCounter + 1 else d.idleCounter)
      else (d.secDiv + 1, d.idleCounter) := by
  rw [secondStep_eq, Config.pibus_ticksPerSecond, Config.pibus_idleThreshold]
  by_cases hfull : 150 ≤ d.secDiv + 1
  · simp only [hfull, if_true, true_and]
  · simp only [hfull, if_false, false_and]

theorem auxRelay_eq_true_iff (d : Dev) : auxRelay d = true ↔ 0 < d.relayTimer := decide_eq_true_iff

/-- A run of DTICKs lowers the relay and the long-press timer by its length (43_tick.md R155, R157). -/
theorem runOps_dticks_timers (ls : List Bool) (s : State) : ∃ t, runOps (ls.map .dtick) s = .next t ∧
    t.dev.relayTimer = s.dev.relayTimer - ls.length ∧ t.dev.holdTimer = s.dev.holdTimer - ls.length ∧
    t.dev.holdArmed = s.dev.holdArmed := by
  induction ls generalizing s with
  | nil => exact ⟨s, runOps_nil s, rfl, rfl, rfl⟩
  | cons l ls ih =>
    obtain ⟨t, hrun, hrelay, hhold, harmed⟩ := ih ((deviceTick Config.pibus l s).answer .nothing)
    simp only [State.answer_dev, deviceTick_pibus_relayTimer, deviceTick_pibus_holdTimer, deviceTick_pibus_holdArmed]
      at hrelay hhold harmed
    refine ⟨t, (runOps_cons _ _ s _ (exec_dtick l s)).trans hrun, ?_, ?_, harmed⟩
    · rw [hrelay, List.length_cons]
      omega
    · rw [hhold, List.length_cons]
      omega

/-! DEV state under any operation -/

/-- DISPATCH writes neither counter: no reaction does (42_reactions.md R130). -/
theorem dispatchPacket_pibus_counters (pkt : Packet) (d : Dev) :
    (dispatchPacket Config.pibus pkt d).secDiv = d.secDiv ∧
      (dispatchPacket Config.pibus pkt d).idleCounter = d.idleCounter := by
  rw [dispatchPacket_pibus]
  cases selectReaction Config.pibus pkt with
  | none => exact ⟨rfl, rfl⟩
  | some r =>
    obtain ⟨hidle, hsec, _⟩ := react_frame Config.pibus pkt d r
    exact ⟨hsec, hidle⟩

/-- DEV state after any operation: untouched, or what the operation the spec names makes of it (10_state.md R20). -/
theorem exec_dev_cases (i : Instr) (s t : State) (h : exec i s = .next t) :
    t.dev = s.dev ∨
    (∃ pkt r, i = reactionInstr pkt r ∧ t.dev = react Config.pibus pkt s.dev r) ∨
    (∃ d f, i = .rxbyte d f ∧ t.dev = (receiveByte Config.pibus d f s).dev) ∨
    (∃ l, i = .dtick l ∧ t.dev = (deviceTick Config.pibus l s).dev) ∨
    (i = .complete ∧ t.dev = (completePacket Config.pibus s).dev) ∨
    (i = .reset ∧ t.dev = State.reset.dev) ∨
    (∃ pkt, i = .dispatch pkt ∧ t.dev = dispatchPacket Config.pibus pkt s.dev) ∨
    (∃ v save, i = .setsrc v save ∧ t.dev = setSource v save s.dev) ∨
    (∃ code r, i = .ledreq code ∧ t.dev = loadLed Config.pibus r s.dev) := by
  cases i with
  | rxbyte d f => cases h; exact .inr (.inr (.inl ⟨d, f, rfl, rfl⟩))
  | dtick l => cases h; exact .inr (.inr (.inr (.inl ⟨l, rfl, rfl⟩)))
  | complete => cases h; exact .inr (.inr (.inr (.inr (.inl ⟨rfl, rfl⟩))))
  | reset => cases h; exact .inr (.inr (.inr (.inr (.inr (.inl ⟨rfl, rfl⟩)))))
  | dispatch pkt => cases h; exact .inr (.inr (.inr (.inr (.inr (.inr (.inl ⟨pkt, rfl, rfl⟩))))))
  | cycle pkt => cases h; exact .inr (.inl ⟨pkt, .cycle, rfl, rfl⟩)
  | gear pkt => cases h; exact .inr (.inl ⟨pkt, .gear, rfl, rfl⟩)
  | fob pkt => cases h; exact .inr (.inl ⟨pkt, .fob, rfl, rfl⟩)
  | cdcEnter pkt => cases h; exact .inr (.inl ⟨pkt, .cdcEnter, rfl, rfl⟩)
  | cdcExitBtn pkt => cases h; exact .inr (.inl ⟨pkt, .cdcExitBtn, rfl, rfl⟩)
  | cdcExitMenu pkt => cases h; exact .inr (.inl ⟨pkt, .cdcExitMenu, rfl, rfl⟩)
  | setsrc v save => cases h; exact .inr (.inr (.inr (.inr (.inr (.inr (.inr (.inl ⟨v, save, rfl, rfl⟩)))))))
  | ledreq code =>
    obtain ⟨r, _, e, _⟩ := execLedreq_cases code s
    cases e.symm.trans h
    exact .inr (.inr (.inr (.inr (.inr (.inr (.inr (.inr ⟨code, r, rfl, rfl⟩)))))))
  | enq b y g p =>
    cases h
    rcases enqueue_cases Config.pibus b y g p s with ⟨_, e⟩ | ⟨_, _, _, e⟩ <;> exact .inl (by rw [e]; rfl)
  | stick ct cts li rxe =>
    cases h
    obtain ⟨_, hdev, _⟩ := serviceTick_frame Config.pibus ct cts li rxe s
    exact .inl hdev
  | frame b =>
    obtain ⟨_, _, e, _⟩ := execFrame_cases b s
    cases e.symm.trans h
    exact .inl rfl
  | verify p =>
    obtain ⟨_, _, e, _⟩ := execVerify_cases p s
    cases e.symm.trans h
    exact .inl rfl
  | chk _ | xsize _ | rmmatch _ | rmtag _ | discard | accreset | txemit _ => cases h; exact .inl rfl

/-! The statements -/

/-- Settles O28: the line is high while the timer that the run has lowered is still positive. -/
theorem dticksRunRelayAndHoldCountdowns : Obligations.DticksRunRelayAndHoldCountdowns := by
  unfold Obligations.DticksRunRelayAndHoldCountdowns
  intro ls s
  obtain ⟨t, hrun, hrelay, hhold, harmed⟩ := runOps_dticks_timers ls s
  refine ⟨t, hrun, hrelay, hhold, harmed, ?_⟩
  rw [auxRelay_eq_true_iff, hrelay, Nat.sub_pos_iff_lt]

/-- Settles O27: besides the operations named there only reactions, SETSRC and LEDREQ write DEV state, and not these two. -/
theorem dtickCountsIdleSeconds : Obligations.DtickCountsIdleSeconds := by
  unfold Obligations.DtickCountsIdleSeconds
  refine ⟨fun l s => ⟨_, exec_dtick l s, ?_⟩, fun i s t h hreset hcomplete hdtick hrxbyte => ?_⟩
  · rw [State.answer_dev, deviceTick_pibus_secDiv, deviceTick_pibus_idleCounter, secondStep_pibus_counters]
  · rcases exec_dev_cases i s t h with e | ⟨pkt, r, _, e⟩ | ⟨d, f, hi, _⟩ | ⟨l, hi, _⟩ | ⟨hi, _⟩ | ⟨hi, _⟩ | ⟨pkt, _, e⟩ |
      ⟨v, save, _, e⟩ | ⟨code, r, _, e⟩
    · exact e ▸ ⟨rfl, rfl⟩
    · obtain ⟨hidle, hsec, _⟩ := react_frame Config.pibus pkt s.dev r
      exact e ▸ ⟨hsec, hidle⟩
    · exact absurd hi (hrxbyte d f)
    · exact absurd hi (hdtick l)
    · exact absurd hi hcomplete
    · exact absurd hi hreset
    · exact e ▸ dispatchPacket_pibus_counters pkt s.dev
    · rw [e, setSource_eq]
      exact ⟨rfl, rfl⟩
    · rw [e, loadLed_eq]
      exact ⟨rfl, rfl⟩

end Sys2Proof.Machine
end

section
/-! PROOFS. The queue operations as whole-state equations (44_txqueue.md R170 to R184), and the statements about them. -/

namespace Sys2Proof.Machine

open Sys2Proof

/-! What each operation makes of the state -/

theorem exec_enq (b : Packet) (y : Bool) (g : Tag) (p : Bool) (s : State) :
    exec (.enq b y g p) s = .next ((enqueue Config.pibus b y g p s).answer .nothing) := rfl

theorem exec_stick (ct cts li rxe : Bool) (s : State) :
    exec (.stick ct cts li rxe) s = .next (serviceTick Config.pibus ct cts li rxe s) := rfl

theorem exec_rmmatch (b : Packet) (s : State) :
    exec (.rmmatch b) s = .next ((s.setTxq (removeMatching Config.pibus b s.txq)).answer .nothing) := rfl

theorem exec_rmtag (tag : Tag) (s : State) :
    exec (.rmtag tag) s = .next ((s.setTxq (removeTag tag s.txq)).answer .nothing) := rfl

theorem exec_discard (s : State) : exec .discard s = .next ((s.setTxq (discardAll s.txq)).answer .nothing) := rfl

/-- Once the tag is gone there is nothing more to remove (44_txqueue.md R183). -/
@[simp] theorem removeTag_removeTag (tag : Tag) (q : Txq) : removeTag tag (removeTag tag q) = removeTag tag q := by
  simp [removeTag]

@[simp] theorem discardAll_discardAll (q : Txq) : discardAll (discardAll q) = discardAll q := rfl

/-- The entry that RMMATCH removes is the first with the given bytes (44_txqueue.md R182). -/
theorem removeMatching_of_first (c : Params) (q : Txq) (before : List Entry) (e : Entry) (after : List Entry)
    (hc : c.hasTxq = true) (hq : q.queue = before ++ e :: after) (hb : ∀ x ∈ before, x.bytes ≠ e.bytes) :
    removeMatching c e.bytes q = { queue := before ++ after, linkGood := true } := by
  have herase : q.queue.eraseP (fun x => x.bytes == e.bytes) = before ++ after := by
    rw [hq, List.eraseP_append_right _ fun x hx => by simpa using hb x hx, List.eraseP_cons_of_pos (by simp)]
  have hfound : q.queue.any (fun x => x.bytes == e.bytes) = true := by simp [hq]
  rw [removeMatching, hc, hfound, herase]
  rfl

/-- With an empty queue the decrement of a STICK changes nothing (44_txqueue.md R173, R175). -/
theorem setTxq_map_entryTick_of_queue_nil (s : State) (h : s.txq.queue = []) :
    s.setTxq { s.txq with queue := s.txq.queue.map entryTick } = s := by
  rw [h, List.map_nil, ← h]
  rfl

/-! The scan of a STICK -/

/-- A visited entry that does not give up is sent or skipped, and the scan goes on behind it (44_txqueue.md R177, R179). -/
theorem scanFrom_pibus_cons (lg : Bool) (i : Nat) (e : Entry) (rest : List Entry) (hs : i = 0 ∨ e.sync = false)
    (hg : ¬ givesUp lg e) :
    scanFrom Config.pibus lg i (e :: rest) =
      { scanFrom Config.pibus lg (i + 1) rest with
        entries := visited e :: (scanFrom Config.pibus lg (i + 1) rest).entries
        events := visitEvents e ++ (scanFrom Config.pibus lg (i + 1) rest).events } := by
  have hgo : ¬ (e.sync && i != 0) = true := by
    rcases hs with rfl | hs <;> simp [*]
  rw [scanFrom, if_neg hgo]
  by_cases hdue : e.countdown = 0
  · have hretry : ¬ (Config.pibus.retryLimit < e.attempts ∧ lg = false) := fun h => hg ⟨hdue, h⟩
    simp only [if_pos hdue, if_neg hretry, visited, visitEvents]
    rfl
  · simp only [if_neg hdue, visited, visitEvents]
    rfl

/-- Behind the head the scan visits a run of entries without sync, and goes on behind them (44_txqueue.md R177). -/
theorem scanFrom_pibus_append (lg : Bool) (i : Nat) (before rest : List Entry) (hi : i ≠ 0)
    (hs : ∀ e ∈ before, e.sync = false) (hg : ∀ e ∈ before, ¬ givesUp lg e) :
    scanFrom Config.pibus lg i (before ++ rest) =
      { scanFrom Config.pibus lg (i + before.length) rest with
        entries := before.map visited ++ (scanFrom Config.pibus lg (i + before.length) rest).entries
        events := before.flatMap visitEvents ++ (scanFrom Config.pibus lg (i + before.length) rest).events } := by
  induction before generalizing i with
  | nil => rfl
  | cons e before ih =>
    rw [List.forall_mem_cons] at hs hg
    rw [List.cons_append, scanFrom_pibus_cons lg i e _ (.inr hs.1) hg.1, ih (i + 1) (Nat.succ_ne_zero i) hs.2 hg.2]
    simp only [List.length_cons, List.map_cons, List.flatMap_cons, List.cons_append, List.append_assoc,
      Nat.add_assoc, Nat.add_comm 1]

/-- Behind the head the scan leaves alone what is left after the entries without sync: it is empty or a sync entry heads it. -/
theorem scanFrom_dropWhile_not_sync (c : Params) (lg : Bool) (i : Nat) (q : List Entry) (hi : i ≠ 0) :
    scanFrom c lg i (q.dropWhile fun x => !x.sync) =
      { entries := q.dropWhile fun x => !x.sync, events := [], giveUpAt := none } := by
  induction q with
  | nil => rfl
  | cons e rest ih =>
    cases hs : e.sync with
    | false => rwa [List.dropWhile_cons_of_pos (by simpa using hs)]
    | true => rw [List.dropWhile_cons_of_neg (by simpa using hs), scanFrom_sync c lg i e rest hi hs]

/-- What the scan does not visit starts at the first sync entry behind the head (44_txqueue.md R177). -/
theorem drop_length_scanned_cons (e : Entry) (rest : List Entry) :
    (e :: rest).drop (scanned (e :: rest)).length = rest.dropWhile fun x => !x.sync := by
  rw [scanned, List.length_cons, List.drop_succ_cons]
  nth_rw 2 [← List.takeWhile_append_dropWhile (p := fun x : Entry => !x.sync) (l := rest)]
  exact List.drop_left

/-- Without a give-up the scan of a whole queue updates and emits for the visited entries, and leaves the others alone. -/
theorem scanFrom_pibus_of_not_givesUp (lg : Bool) (q : List Entry) (hg : ∀ e ∈ scanned q, ¬ givesUp lg e) :
    scanFrom Config.pibus lg 0 q =
      { entries := (scanned q).map visited ++ q.drop (scanned q).length
        events := (scanned q).flatMap visitEvents
        giveUpAt := none } := by
  cases q with
  | nil => rfl
  | cons e rest =>
    rw [drop_length_scanned_cons]
    rw [scanned, List.forall_mem_cons] at hg
    have hnosync : ∀ x ∈ rest.takeWhile (fun x => !x.sync), x.sync = false := fun x hx => by
      simpa using List.mem_takeWhile_imp hx
    have hrest := scanFrom_pibus_append lg 1 _ (rest.dropWhile fun x => !x.sync) one_ne_zero hnosync hg.2
    rw [List.takeWhile_append_dropWhile, scanFrom_dropWhile_not_sync _ lg _ rest (by omega), List.append_nil] at hrest
    rw [scanFrom_pibus_cons lg 0 e rest (.inl rfl) hg.1, hrest]
    rfl

/-- The scan emits something exactly when a visited entry is due (44_txqueue.md R180). -/
theorem flatMap_visitEvents_ne_nil_iff (q : List Entry) : q.flatMap visitEvents ≠ [] ↔ ∃ e ∈ q, e.countdown = 0 := by
  simp [visitEvents]

/-- A clear STICK whose scan meets no give-up takes over the scan's entries and events and flushes after the last event
(44_txqueue.md R180); an empty queue is no exception, since its scan is empty. -/
theorem exec_clearStick_of_no_giveUp (s : State) (r : Scan)
    (hr : scanFrom Config.pibus s.txq.linkGood 0 (s.txq.queue.map entryTick) = r) (hg : r.giveUpAt = none) :
    exec clearStick s = .next
      { s with
        txq := { s.txq with queue := r.entries }
        out := s.out ++ r.events ++ if r.events ≠ [] then [.txFlush] else []
        result := .stick false false } := by
  subst hr
  rw [clearStick, exec_stick]
  rcases serviceTick_cases Config.pibus true true true true s with ⟨hq, e⟩ | ⟨_, _, hbusy, _⟩ | ⟨_, _, _, _, _, e⟩
  · have hempty : s.txq.queue = [] := hq.resolve_left Bool.true_eq_false.mp
    have hscan : scanFrom Config.pibus s.txq.linkGood 0 (s.txq.queue.map entryTick) = ⟨[], [], none⟩ := by
      rw [hempty]
      rfl
    rw [e, setTxq_map_entryTick_of_queue_nil s hempty, hscan]
    simp [State.answer, ← hempty]
  · exact absurd ⟨rfl, rfl, rfl⟩ hbusy
  · rcases e with ⟨i, hsome, _⟩ | ⟨_, hnone, e⟩ | ⟨_, hsome, e⟩
    · rw [hsome] at hg
      cases hg
    · rw [e, if_neg (not_not.mpr hnone), List.append_nil]
      rfl
    · rw [e, if_pos hsome]
      rfl

/-! The statements -/

/-- Settles O35: the scan visits the head and then the run of entries without sync. -/
theorem stickSendsTheScannedEntries : Obligations.StickSendsTheScannedEntries := by
  unfold Obligations.StickSendsTheScannedEntries
  intro s q hg
  rw [exec_clearStick_of_no_giveUp s _ (scanFrom_pibus_of_not_givesUp s.txq.linkGood q hg) rfl]
  simp only [flatMap_visitEvents_ne_nil_iff]

/-- Settles O38. -/
theorem rmmatchRemovesTheFirstEqualEntry : Obligations.RmmatchRemovesTheFirstEqualEntry := by
  unfold Obligations.RmmatchRemovesTheFirstEqualEntry
  refine fun b s => ⟨fun hnone => ?_, fun before e after hq hb he => ?_⟩
  · rw [exec_rmmatch, removeMatching_none _ b s.txq hnone]
    rfl
  · subst he
    rw [exec_rmmatch, removeMatching_of_first _ s.txq before e after Config.pibus_hasTxq hq hb]
    rfl

/-- Settles O32. -/
theorem enqInsertsAFramedEntry : Obligations.EnqInsertsAFramedEntry := by
  unfold Obligations.EnqInsertsAFramedEntry
  intro b y g p s hpos hmax hroom
  refine ⟨framed b, exec_frame_of_ne_nil b s (List.ne_nil_of_length_pos hpos), ?_⟩
  rcases enqueue_cases Config.pibus b y g p s with ⟨hrefused, _⟩ | ⟨_, _, _, e⟩
  · rw [Config.pibus_maxPacketSize] at hrefused
    omega
  · rw [exec_enq, e]
    rfl

/-- Settles O33. -/
theorem enqRefusesWhole : Obligations.EnqRefusesWhole := by
  unfold Obligations.EnqRefusesWhole
  intro b y g p s hrefused
  rcases enqueue_cases Config.pibus b y g p s with ⟨_, e⟩ | ⟨hpos, hmax, hroom, _⟩
  · rw [exec_enq, e]
    rfl
  · rw [Config.pibus_maxPacketSize] at hmax
    omega

/-- Settles O34: the inputs exclude all but one of the ends of a STICK. -/
theorem stickWithoutAScan : Obligations.StickWithoutAScan := by
  unfold Obligations.StickWithoutAScan
  intro ct cts li rxe s
  rw [exec_stick]
  rcases serviceTick_cases Config.pibus ct cts li rxe s with ⟨hend, e⟩ | ⟨hct, hq, _, e⟩ | ⟨hct, hq, hcts, hli, hrxe, _⟩
  · refine ⟨fun _ => by rw [e]; rfl, fun _ hq => ?_, fun hct hq => absurd hend (by simp [hct, hq])⟩
    rw [e, setTxq_map_entryTick_of_queue_nil s hq]
    rfl
  · exact ⟨fun h => absurd (h.symm.trans hct) Bool.false_ne_true, fun _ h => absurd h hq, fun _ _ _ => by rw [e]; rfl⟩
  · exact ⟨fun h => absurd (h.symm.trans hct) Bool.false_ne_true, fun _ h => absurd h hq,
      fun _ _ hbusy => absurd ⟨hcts, hli, hrxe⟩ hbusy⟩

/-- Settles O39. -/
theorem rmtagAndDiscardRemoveEntries : Obligations.RmtagAndDiscardRemoveEntries := by
  unfold Obligations.RmtagAndDiscardRemoveEntries
  refine fun tag s => ⟨⟨_, exec_rmtag tag s, ?_, ?_⟩, ⟨_, exec_discard s, rfl, ?_⟩⟩
  · simp [removeTag, State.setTxq, State.answer, bne, beq_eq_decide]
  · rw [exec_rmtag, State.answer_txq, State.setTxq_txq, removeTag_removeTag]
    rfl
  · rw [exec_discard, State.answer_txq, State.setTxq_txq, discardAll_discardAll]
    rfl

end Sys2Proof.Machine
end

section
/-! PROOFS. One step, by what its next frame decodes to (20_memory.md R58), and the statement about it. -/

namespace Sys2Proof.Machine

open Sys2Proof

theorem step_of_inbox_nil (s : State) (h : s.inbox = []) : step s = .next s := by
  rw [step, takeFrame_nil s h]

theorem step_of_decode_ok (s : State) (f : Frame) (rest : List Frame) (i : Instr) (h : s.inbox = f :: rest)
    (hd : decode Config.pibus f = .ok i) : step s = exec i { s with inbox := rest } := by
  simp only [step, takeFrame_cons s f rest h, hd]

theorem step_of_decode_error (s : State) (f : Frame) (rest : List Frame) (r : Reject) (h : s.inbox = f :: rest)
    (hd : decode Config.pibus f = .error r) : step s = .refused (.undecodable r) := by
  simp only [step, takeFrame_cons s f rest h, hd]

/-- A step waits, performs an operation on the state without its next frame, or refuses that frame (20_memory.md R58). -/
theorem step_cases (s : State) :
    step s = .next s ∨ (∃ i inbox, step s = exec i { s with inbox := inbox }) ∨ ∃ r, step s = .refused (.undecodable r) := by
  cases hin : s.inbox with
  | nil => exact .inl (step_of_inbox_nil s hin)
  | cons f rest =>
    cases hd : decode Config.pibus f with
    | ok i => exact .inr (.inl ⟨i, rest, step_of_decode_ok s f rest i hin hd⟩)
    | error r => exact .inr (.inr ⟨r, step_of_decode_error s f rest r hin hd⟩)

/-- Settles O53. -/
theorem stepRunsTheDecodedEvent : Obligations.StepRunsTheDecodedEvent := by
  unfold Obligations.StepRunsTheDecodedEvent
  exact fun s => ⟨step_of_inbox_nil s, fun f rest hin =>
    ⟨fun i hd => step_of_decode_ok s f rest i hin hd, fun r hd => step_of_decode_error s f rest r hin hd⟩⟩

end Sys2Proof.Machine
end

section
/-! PROOFS. What every operation does to the output trace, the answer, and the model's own fields (10_state.md R39,
00_scope.md R14), and the statements about all operations. -/

namespace Sys2Proof.Machine

open Sys2Proof

/-! What the operations that emit make of the output trace -/

theorem exec_txemit (body : Packet) (s : State) :
    exec (.txemit body) s = .next ((s.emit [.tx (framed (body ++ [0]))]).answer .nothing) := rfl

/-- Only a fault-free byte at a full accumulator emits: ACC_OVERFLOW (41_receive.md R112). -/
theorem receiveByte_out_cases (d : Byte) (f : BitVec 3) (s : State) :
    (receiveByte Config.pibus d f s).out = s.out ∨
      (f = 0 ∧ (receiveByte Config.pibus d f s).out = s.out ++ [.accOverflow]) := by
  rcases receiveByte_cases d f s with ⟨_, e⟩ | ⟨hf, _, e⟩ | ⟨_, _, _, e⟩ | ⟨_, _, _, e⟩
  · exact .inl (by rw [e])
  · exact .inr ⟨hf, by rw [e, State.emit_out]⟩
  · exact .inl (by rw [e, completePacket_pibus, State.setRxc_out])
  · exact .inl (by rw [e, State.setRxc_out])

/-- A DTICK emits nothing or one TX of a framed LED body (43_tick.md R156). -/
theorem deviceTick_pibus_out_cases (l : Bool) (s : State) :
    (deviceTick Config.pibus l s).out = s.out ∨
      ∃ b, (deviceTick Config.pibus l s).out = s.out ++ [.tx (framed b)] := by
  rw [deviceTick_pibus]
  cases ledMessage (txPermitted l s.rxc) s.dev with
  | none => exact .inl (List.append_nil _)
  | some m => exact .inr ⟨_, rfl⟩

/-- ENQ emits nothing or ENQ_REJECT (44_txqueue.md R171). -/
theorem enqueue_out_cases (c : Params) (b : Packet) (y : Bool) (g : Tag) (p : Bool) (s : State) :
    (enqueue c b y g p s).out = s.out ∨ (enqueue c b y g p s).out = s.out ++ [.enqReject] := by
  rcases enqueue_cases c b y g p s with ⟨_, e⟩ | ⟨_, _, _, e⟩
  · exact .inr (by rw [e, State.emit_out])
  · exact .inl (by rw [e, State.setTxq_out])

/-- What a give-up does to its entry (60_exceptions.md R200, X3). -/
def clearAttempts (e : Entry) : Entry := { e with attempts := 0 }

/-- The queue and the output trace after a STICK: no scan; a scan to its end, with or without a flush; or a scan that gave up,
with the attempts of its last entry cleared (44_txqueue.md R172 to R181). -/
theorem serviceTick_queue_cases (c : Params) (ct cts li rxe : Bool) (s : State) :
    let q := s.txq.queue.map entryTick
    let r := scanFrom c s.txq.linkGood 0 q
    let t := serviceTick c ct cts li rxe s
    (t.txq.queue = q ∧ t.out = s.out) ∨
    (t.txq.queue = r.entries ∧ (t.out = s.out ++ r.events ∨ t.out = s.out ++ r.events ++ [.txFlush])) ∨
    ∃ i, r.giveUpAt = some i ∧ t.txq.queue = r.entries.modify i clearAttempts ∧
      t.out = s.out ++ r.events := by
  intro q r t
  rcases serviceTick_cases c ct cts li rxe s with ⟨_, e⟩ | ⟨_, _, _, e⟩ | ⟨_, _, _, _, _, e⟩
  · exact .inl (by simp only [t, e]; exact ⟨rfl, rfl⟩)
  · exact .inl (by simp only [t, e]; exact ⟨rfl, rfl⟩)
  · rcases e with ⟨i, hi, e⟩ | ⟨_, _, e⟩ | ⟨_, _, e⟩
    · exact .inr (.inr ⟨i, hi, by simp only [t, e]; exact ⟨rfl, rfl⟩⟩)
    · exact .inr (.inl (by simp only [t, e]; exact ⟨rfl, .inl rfl⟩))
    · exact .inr (.inl (by simp only [t, e]; exact ⟨rfl, .inr rfl⟩))

/-- A STICK appends to the output trace TX and OBSERVE of entries of the queue, and TX_FLUSH (44_txqueue.md R179, R180). -/
theorem serviceTick_out (c : Params) (ct cts li rxe : Bool) (s : State) :
    ∃ es, (serviceTick c ct cts li rxe s).out = s.out ++ es ∧
      ∀ x ∈ es, x = .txFlush ∨ ∃ e ∈ s.txq.queue, x = .tx e.bytes ∨ x = .observe e.bytes := by
  have hscan : ∀ x ∈ (scanFrom c s.txq.linkGood 0 (s.txq.queue.map entryTick)).events,
      ∃ e ∈ s.txq.queue, x = .tx e.bytes ∨ x = .observe e.bytes := fun x hx => by
    obtain ⟨_, hmem, hbytes⟩ := scanFrom_events _ _ _ _ x hx
    obtain ⟨e, he, rfl⟩ := List.mem_map.mp hmem
    exact ⟨e, he, hbytes⟩
  rcases serviceTick_queue_cases c ct cts li rxe s with ⟨_, e⟩ | ⟨_, e | e⟩ | ⟨_, _, _, e⟩
  · exact ⟨[], by rw [e, List.append_nil], nofun⟩
  · exact ⟨_, e, fun x hx => .inr (hscan x hx)⟩
  · refine ⟨_, by rw [e, List.append_assoc], fun x hx => ?_⟩
    rcases List.mem_append.mp hx with hx | hx
    · exact .inr (hscan x hx)
    · exact .inl (List.mem_singleton.mp hx)
  · exact ⟨_, e, fun x hx => .inr (hscan x hx)⟩

/-! The output trace, the answer and the model's own fields under any operation -/

/-- The output trace after any operation: untouched, or extended by what the operation the spec names emits
(10_state.md R39), or emptied by RESET. -/
theorem exec_out_cases (i : Instr) (s t : State) (h : exec i s = .next t) :
    t.out = s.out ∨
    (∃ d, i = .rxbyte d 0 ∧ t.out = s.out ++ [.accOverflow]) ∨
    (((∃ l, i = .dtick l) ∨ ∃ b, i = .txemit b) ∧ ∃ b, t.out = s.out ++ [.tx (framed b)]) ∨
    (∃ b y g p, i = .enq b y g p ∧ t.out = s.out ++ [.enqReject]) ∨
    (∃ ct cts li rxe, i = .stick ct cts li rxe ∧ t.out = (serviceTick Config.pibus ct cts li rxe s).out) ∨
    (i = .reset ∧ t.out = []) := by
  cases i with
  | rxbyte d f =>
    cases h
    rcases receiveByte_out_cases d f s with e | ⟨rfl, e⟩
    · exact .inl e
    · exact .inr (.inl ⟨d, rfl, e⟩)
  | dtick l =>
    cases h
    rcases deviceTick_pibus_out_cases l s with e | e
    · exact .inl e
    · exact .inr (.inr (.inl ⟨.inl ⟨l, rfl⟩, e⟩))
  | txemit b => cases h; exact .inr (.inr (.inl ⟨.inr ⟨b, rfl⟩, b ++ [0], rfl⟩))
  | enq b y g p =>
    cases h
    rcases enqueue_out_cases Config.pibus b y g p s with e | e
    · exact .inl e
    · exact .inr (.inr (.inr (.inl ⟨b, y, g, p, rfl, e⟩)))
  | stick ct cts li rxe => cases h; exact .inr (.inr (.inr (.inr (.inl ⟨ct, cts, li, rxe, rfl, rfl⟩))))
  | reset => cases h; exact .inr (.inr (.inr (.inr (.inr ⟨rfl, rfl⟩))))
  | complete => cases h; exact .inl (by rw [State.answer_out, completePacket_pibus])
  | frame b =>
    obtain ⟨_, _, e, _⟩ := execFrame_cases b s
    cases e.symm.trans h
    exact .inl rfl
  | verify p =>
    obtain ⟨_, _, e, _⟩ := execVerify_cases p s
    cases e.symm.trans h
    exact .inl rfl
  | ledreq code =>
    obtain ⟨_, _, e, _⟩ := execLedreq_cases code s
    cases e.symm.trans h
    exact .inl rfl
  | chk _ | xsize _ | rmmatch _ | rmtag _ | discard | accreset | dispatch _ | setsrc _ _ | cycle _ | gear _ | fob _
  | cdcEnter _ | cdcExitBtn _ | cdcExitMenu _ => cases h; exact .inl rfl

/-- Only STICK answers a result pair (10_state.md R39). -/
theorem exec_stick_of_result (i : Instr) (s t : State) (h : exec i s = .next t) (b g : Bool) (hr : t.result = .stick b g) :
    ∃ ct cts li rxe, i = .stick ct cts li rxe ∧ t = serviceTick Config.pibus ct cts li rxe s := by
  cases i with
  | stick ct cts li rxe => cases h; exact ⟨ct, cts, li, rxe, rfl, rfl⟩
  | frame b =>
    obtain ⟨_, _, e, _⟩ := execFrame_cases b s
    cases e.symm.trans h
    cases hr
  | verify p =>
    obtain ⟨_, _, e, _⟩ := execVerify_cases p s
    cases e.symm.trans h
    cases hr
  | ledreq code =>
    obtain ⟨_, _, e, _⟩ := execLedreq_cases code s
    cases e.symm.trans h
    cases hr
  | rxbyte _ _ | dtick _ | enq _ _ _ _ | rmmatch _ | rmtag _ | discard | reset | chk _ | xsize _ | accreset | complete
  | dispatch _ | setsrc _ _ | txemit _ | cycle _ | gear _ | fob _ | cdcEnter _ | cdcExitBtn _ | cdcExitMenu _ =>
    cases h; cases hr

/-- A byte arrival keeps the events to come and uses no free value (41_receive.md R110). -/
theorem receiveByte_model_fields (d : Byte) (f : BitVec 3) (s : State) :
    (receiveByte Config.pibus d f s).inbox = s.inbox ∧ (receiveByte Config.pibus d f s).freeCount = s.freeCount := by
  rcases receiveByte_cases d f s with ⟨_, e⟩ | ⟨_, _, e⟩ | ⟨_, _, _, e⟩ | ⟨_, _, _, e⟩
  · rw [e]
    exact ⟨rfl, rfl⟩
  · rw [e]
    exact ⟨rfl, rfl⟩
  · rw [e, completePacket_pibus]
    exact ⟨rfl, rfl⟩
  · rw [e]
    exact ⟨rfl, rfl⟩

/-- No operation changes the events to come, and only the three without a stated result use a free value
(notes/assumptions/1, 17). -/
theorem exec_model_fields (i : Instr) (s t : State) (h : exec i s = .next t) :
    t.inbox = s.inbox ∧ (t.freeCount = s.freeCount ∨ i = .frame [] ∨ i = .verify [] ∨ i = .ledreq none) := by
  cases i with
  | rxbyte d f =>
    cases h
    obtain ⟨hinbox, hfree⟩ := receiveByte_model_fields d f s
    exact ⟨hinbox, .inl hfree⟩
  | dtick l =>
    cases h
    rw [deviceTick_pibus]
    exact ⟨rfl, .inl rfl⟩
  | complete =>
    cases h
    rw [completePacket_pibus]
    exact ⟨rfl, .inl rfl⟩
  | enq b y g p =>
    cases h
    rcases enqueue_cases Config.pibus b y g p s with ⟨_, e⟩ | ⟨_, _, _, e⟩ <;> exact e ▸ ⟨rfl, .inl rfl⟩
  | stick ct cts li rxe =>
    cases h
    obtain ⟨_, _, hinbox, hfree, _⟩ := serviceTick_frame Config.pibus ct cts li rxe s
    exact ⟨hinbox, .inl hfree⟩
  | frame b =>
    cases b with
    | nil => cases h; exact ⟨rfl, .inr (.inl rfl)⟩
    | cons x rest => cases h; exact ⟨rfl, .inl rfl⟩
  | verify p =>
    cases p with
    | nil => cases h; exact ⟨rfl, .inr (.inr (.inl rfl))⟩
    | cons x rest => cases h; exact ⟨rfl, .inl rfl⟩
  | ledreq code =>
    cases code with
    | none => cases h; exact ⟨rfl, .inr (.inr (.inr rfl))⟩
    | some p => cases h; exact ⟨rfl, .inl rfl⟩
  | chk _ | xsize _ | rmmatch _ | rmtag _ | discard | reset | accreset | dispatch _ | setsrc _ _ | txemit _ | cycle _
  | gear _ | fob _ | cdcEnter _ | cdcExitBtn _ | cdcExitMenu _ => cases h; exact ⟨rfl, .inl rfl⟩

/-- The block never halts on an operation (70_reset_and_hazards.md R244). -/
theorem exec_completes (i : Instr) (s : State) : ∃ t, exec i s = .next t := by
  cases i with
  | frame b => obtain ⟨_, _, e, _⟩ := execFrame_cases b s; exact ⟨_, e⟩
  | verify p => obtain ⟨_, _, e, _⟩ := execVerify_cases p s; exact ⟨_, e⟩
  | ledreq code => obtain ⟨_, _, e, _⟩ := execLedreq_cases code s; exact ⟨_, e⟩
  | rxbyte _ _ | dtick _ | stick _ _ _ _ | enq _ _ _ _ | rmmatch _ | rmtag _ | discard | reset | chk _ | xsize _ | accreset
  | complete | dispatch _ | setsrc _ _ | txemit _ | cycle _ | gear _ | fob _ | cdcEnter _ | cdcExitBtn _
  | cdcExitMenu _ => exact ⟨_, rfl⟩

/-! The statements -/

/-- Settles O42: only STICK answers a pair; none of its five ends answers (1, 1), and the one that gives up needs an unproven
link. -/
theorem giveupExcludesBusyAndProvenLink : Obligations.GiveupExcludesBusyAndProvenLink := by
  unfold Obligations.GiveupExcludesBusyAndProvenLink
  intro i s t h
  have hpair : ∀ b, t.result = .stick b true → b = false ∧ s.txq.linkGood = false := fun b hr => by
    obtain ⟨ct, cts, li, rxe, _, rfl⟩ := exec_stick_of_result i s t h b true hr
    rcases serviceTick_cases Config.pibus ct cts li rxe s with ⟨_, e⟩ | ⟨_, _, _, e⟩ | ⟨_, _, _, _, _, e⟩
    · rw [e] at hr
      cases hr
    · rw [e] at hr
      cases hr
    · rcases e with ⟨j, hj, e⟩ | ⟨_, _, e⟩ | ⟨_, _, e⟩ <;> rw [e] at hr <;> cases hr
      refine ⟨rfl, Bool.eq_false_iff.mpr fun hgood => ?_⟩
      rw [hgood, scanFrom_proven] at hj
      cases hj
  refine ⟨fun hr => ?_, fun hgood b hr => ?_⟩
  · cases (hpair true hr).1
  · cases hgood.symm.trans (hpair b hr).2

/-- Settles O43. -/
theorem eachGroupIsWrittenByItsOwners : Obligations.EachGroupIsWrittenByItsOwners := by
  unfold Obligations.EachGroupIsWrittenByItsOwners
  intro i s t h
  obtain ⟨hinbox, hfree⟩ := exec_model_fields i s t h
  refine ⟨hinbox, fun hne => hfree.resolve_left hne, fun hne => ?_, fun hne => ?_, fun hne => ?_⟩
  · rcases exec_rxc_cases i s t h with e | ⟨d, hi, _⟩ | ⟨l, hi, _⟩ | ⟨hi | hi, _⟩ | ⟨hi, _⟩
    · exact absurd e hne
    · exact .inl ⟨d, 0, hi⟩
    · exact .inr (.inl ⟨l, hi⟩)
    · exact .inr (.inr (.inl hi))
    · exact .inr (.inr (.inr (.inl hi)))
    · exact .inr (.inr (.inr (.inr hi)))
  · rcases exec_txq_cases i s t h with e | ⟨hi, _⟩ | ⟨b, y, g, p, hi, _⟩ | ⟨ct, cts, li, rxe, hi, _⟩ | ⟨g, hi, _⟩ | ⟨hi, _⟩ |
      ⟨hi, _⟩
    · exact absurd e hne
    · rcases hi with hi | hi | hi
      · exact .inr (.inr (.inr (.inl hi)))
      · exact .inl hi
      · exact .inr (.inr (.inr (.inr (.inr (.inr (.inl hi))))))
    · exact .inr (.inl ⟨b, y, g, p, hi⟩)
    · exact .inr (.inr (.inl ⟨ct, cts, li, rxe, hi⟩))
    · exact .inr (.inr (.inr (.inr (.inl ⟨g, hi⟩))))
    · exact .inr (.inr (.inr (.inr (.inr (.inl hi)))))
    · exact .inr (.inr (.inr (.inr (.inr (.inr (.inr hi))))))
  · rcases exec_dev_cases i s t h with e | ⟨pkt, r, hi, _⟩ | ⟨d, f, hi, _⟩ | ⟨l, hi, _⟩ | ⟨hi, _⟩ | ⟨hi, _⟩ | ⟨pkt, hi, _⟩ |
      ⟨v, save, hi, _⟩ | ⟨code, r, hi, _⟩
    · exact absurd e hne
    · exact .inr (.inr (.inr (.inr (.inr (.inr (.inl ⟨pkt, r, hi⟩))))))
    · exact .inl ⟨d, f, hi⟩
    · exact .inr (.inl ⟨l, hi⟩)
    · exact .inr (.inr (.inl hi))
    · exact .inr (.inr (.inr (.inr (.inr (.inr (.inr hi))))))
    · exact .inr (.inr (.inr (.inl ⟨pkt, hi⟩)))
    · exact .inr (.inr (.inr (.inr (.inl ⟨v, save, hi⟩))))
    · exact .inr (.inr (.inr (.inr (.inr (.inl ⟨code, hi⟩)))))

/-- Settles O44. -/
theorem outputTraceOnlyGrows : Obligations.OutputTraceOnlyGrows := by
  unfold Obligations.OutputTraceOnlyGrows
  intro i s t h hreset
  rcases exec_out_cases i s t h with e | ⟨d, hi, e⟩ | ⟨hi, b, e⟩ | ⟨b, y, g, p, hi, e⟩ | ⟨ct, cts, li, rxe, hi, e⟩ | ⟨hi, _⟩
  · exact ⟨[], by rw [e, List.append_nil], nofun⟩
  · refine ⟨_, e, fun x hx => ?_⟩
    cases List.mem_singleton.mp hx
    exact ⟨d, hi⟩
  · refine ⟨_, e, fun x hx => ?_⟩
    cases List.mem_singleton.mp hx
    exact hi.elim .inl fun hi => .inr (.inl hi)
  · refine ⟨_, e, fun x hx => ?_⟩
    cases List.mem_singleton.mp hx
    exact ⟨b, y, g, p, hi⟩
  · obtain ⟨es, hes, hmem⟩ := serviceTick_out Config.pibus ct cts li rxe s
    refine ⟨es, e.trans hes, fun x hx => ?_⟩
    rcases hmem x hx with rfl | ⟨_, _, rfl | rfl⟩
    · exact ⟨ct, cts, li, rxe, hi⟩
    · exact .inr (.inr ⟨ct, cts, li, rxe, hi⟩)
    · exact ⟨ct, cts, li, rxe, hi⟩
  · exact absurd hi hreset

/-- Settles O48. -/
theorem everyOperationCompletes : Obligations.EveryOperationCompletes := by
  unfold Obligations.EveryOperationCompletes
  refine ⟨exec_completes, fun s => ?_⟩
  rcases step_cases s with e | ⟨i, inbox, e⟩ | ⟨r, e⟩
  · exact .inl ⟨s, e⟩
  · obtain ⟨t, ht⟩ := exec_completes i { s with inbox := inbox }
    exact .inl ⟨t, e.trans ht⟩
  · exact .inr ⟨r, e⟩

end Sys2Proof.Machine
end

section
/-! PROOFS. Every operation keeps the bounds of the state (10_state.md sections 2 to 4): group by group, then whole. -/

namespace Sys2Proof.Machine

open Sys2Proof

/-! RXC -/

/-- An empty accumulator is within the bounds. -/
theorem accReset_inv (c : Params) (r : Rxc) (h : r.Inv c) : (accReset r).Inv c := by
  obtain ⟨hacc, _⟩ := h
  exact ⟨hacc, Nat.zero_le _, Nat.zero_le _, iff_of_true rfl rfl⟩

/-- The timeout of this hardware is at most 1, so its timeout step always empties the accumulator (41_receive.md R118). -/
theorem timeoutStep_eq_accReset_of_inv (r : Rxc) (h : r.Inv Config.pibus) : timeoutStep r = accReset r := by
  obtain ⟨_, _, htimeout, _⟩ := h
  rw [Config.pibus_rxTimeoutTicks] at htimeout
  rcases timeoutStep_cases r with ⟨_, e⟩ | ⟨hgt, _⟩
  · exact e
  · omega

/-- A byte is stored below the capacity only, and a partial packet has its timeout running (41_receive.md R112, R113). -/
theorem receiveByte_rxc_inv (d : Byte) (f : BitVec 3) (s : State) (h : s.rxc.Inv Config.pibus) :
    (receiveByte Config.pibus d f s).rxc.Inv Config.pibus := by
  have hinv := h
  obtain ⟨hacc, hcursor, _, _⟩ := h
  rw [Config.pibus_accCapacity] at hcursor
  have hstored : (storeByte s.rxc d).acc.length = Config.pibus.accCapacity := by rw [storeByte_acc, List.length_set, hacc]
  rcases receiveByte_cases d f s with ⟨_, e⟩ | ⟨_, _, e⟩ | ⟨_, _, _, e⟩ | ⟨_, hroom, _, e⟩
  · rwa [e]
  · rwa [e]
  · rw [e, completePacket_pibus_rxc]
    exact ⟨hstored, Nat.zero_le _, Nat.zero_le _, iff_of_true rfl rfl⟩
  · rw [e]
    refine ⟨hstored, ?_, le_rfl, iff_of_false (Nat.succ_ne_zero _) one_ne_zero⟩
    rw [State.setRxc_rxc, storeByte_cursor, Config.pibus_accCapacity]
    omega

theorem reset_rxc_inv : State.reset.rxc.Inv Config.pibus :=
  ⟨List.length_replicate, Nat.zero_le _, Nat.zero_le _, iff_of_true rfl rfl⟩

theorem exec_keeps_rxc_inv (i : Instr) (s t : State) (h : exec i s = .next t) (hs : s.rxc.Inv Config.pibus) :
    t.rxc.Inv Config.pibus := by
  rcases exec_rxc_cases i s t h with e | ⟨d, _, e⟩ | ⟨l, _, e⟩ | ⟨_, e⟩ | ⟨_, e⟩ <;> rw [e]
  · exact hs
  · exact receiveByte_rxc_inv d 0 s hs
  · rw [timeoutStep_eq_accReset_of_inv s.rxc hs]
    exact accReset_inv _ s.rxc hs
  · exact accReset_inv _ s.rxc hs
  · exact reset_rxc_inv

/-! DEV -/

/-- SETSRC writes the two sources, which have no bound. -/
theorem setSource_inv (c : Params) (v : VideoSource) (save : Bool) (d : Dev) (h : d.Inv c) : (setSource v save d).Inv c := h

/-- LEDREQ loads the timer to its bound and cancels a pending clear. -/
theorem loadLed_inv (c : Params) (r : Option LedPattern) (d : Dev) (h : d.Inv c) : (loadLed c r d).Inv c := by
  obtain ⟨_, hidle, hsec, hrelay, hhold, hhb, _, _, harmed⟩ := h
  exact ⟨le_rfl, hidle, hsec, hrelay, hhold, hhb, fun _ => rfl, nofun, harmed⟩

/-- FOB loads the long-press timer and the relay pulse to their bounds, and clears the timer when it disarms. -/
theorem reactFob_inv (c : Params) (pkt : Packet) (d : Dev) (h : d.Inv c) : (reactFob c pkt d).Inv c := by
  have hinv := h
  obtain ⟨hled, hidle, hsec, hrelay, _, hhb, hreq, hclear, _⟩ := h
  unfold reactFob
  split
  · split
    · exact hinv
    · exact ⟨hled, hidle, hsec, hrelay, le_rfl, hhb, hreq, hclear, nofun⟩
  · split
    · exact ⟨le_rfl, hidle, hsec, le_rfl, Nat.zero_le _, hhb, fun _ => rfl, nofun, fun _ => rfl⟩
    · exact ⟨hled, hidle, hsec, hrelay, Nat.zero_le _, hhb, hreq, hclear, fun _ => rfl⟩

theorem react_inv (c : Params) (pkt : Packet) (d : Dev) (r : Reaction) (h : d.Inv c) : (react c pkt d r).Inv c := by
  cases r with
  | cycle => exact loadLed_inv c _ _ (setSource_inv c _ true d h)
  | gear =>
    simp only [react, reactGear]
    split <;> exact setSource_inv c _ false d h
  | fob => exact reactFob_inv c pkt d h
  | cdcEnter => exact setSource_inv c .companion true d h
  | cdcExitBtn => exact setSource_inv c .bus true d h
  | cdcExitMenu => exact setSource_inv c .bus true d h

theorem dispatchPacket_pibus_inv (pkt : Packet) (d : Dev) (h : d.Inv Config.pibus) :
    (dispatchPacket Config.pibus pkt d).Inv Config.pibus := by
  rw [dispatchPacket_pibus]
  cases selectReaction Config.pibus pkt with
  | none => exact h
  | some r => exact react_inv _ pkt d r h

/-- Clearing the idle counter and its prescaler keeps the bounds (41_receive.md R115). -/
theorem clearIdle_inv (c : Params) (d : Dev) (h : d.Inv c) : Dev.Inv c { d with idleCounter := 0, secDiv := 0 } := by
  obtain ⟨hled, _, _, hrest⟩ := h
  exact ⟨hled, Nat.zero_le _, Nat.zero_le _, hrest⟩

theorem completePacket_pibus_dev_inv (s : State) (h : s.dev.Inv Config.pibus) :
    (completePacket Config.pibus s).dev.Inv Config.pibus := by
  rw [completePacket_pibus]
  exact clearIdle_inv _ _ (dispatchPacket_pibus_inv _ _ h)

/-- A byte arrival leaves DEV state alone or performs a completion on it (41_receive.md R110, R115). -/
theorem receiveByte_dev_cases (d : Byte) (f : BitVec 3) (s : State) :
    (receiveByte Config.pibus d f s).dev = s.dev ∨
      ∃ r, (receiveByte Config.pibus d f s).dev = (completePacket Config.pibus (s.setRxc r)).dev := by
  rcases receiveByte_cases d f s with ⟨_, e⟩ | ⟨_, _, e⟩ | ⟨_, _, _, e⟩ | ⟨_, _, _, e⟩
  · exact .inl (by rw [e])
  · exact .inl (by rw [e, State.emit_dev])
  · exact .inr ⟨_, by rw [e]⟩
  · exact .inl (by rw [e, State.setRxc_dev])

theorem heartbeatStep_hbDiv_le (c : Params) (power : Bool) (d : Dev) :
    (heartbeatStep c power d).hbDiv ≤ max c.hbHalfFast c.hbHalfSlow - 1 := by
  rw [heartbeatStep_eq]
  cases power <;> simp only [if_true, Bool.false_eq_true, if_false] <;> split <;> omega

theorem secondStep_secDiv_le (c : Params) (d : Dev) : (secondStep c d).secDiv ≤ c.ticksPerSecond - 1 := by
  rw [secondStep_eq]
  simp only
  split <;> omega

/-- The idle counter saturates (43_tick.md R154). -/
theorem secondStep_idleCounter_le (c : Params) (d : Dev) (h : d.idleCounter ≤ c.idleThreshold) :
    (secondStep c d).idleCounter ≤ c.idleThreshold := by
  rw [secondStep_eq]
  simp only
  split <;> omega

/-- A DTICK counts within the bounds; while a request is pending no clear is, and a clear falls due as the display timer
reaches 0 (43_tick.md R156). -/
theorem deviceTick_pibus_dev_inv (l : Bool) (s : State) (h : s.dev.Inv Config.pibus) :
    (deviceTick Config.pibus l s).dev.Inv Config.pibus := by
  obtain ⟨hled, hidle, _, hrelay, hhold, _, hreq, hclear, harmed⟩ := h
  rw [deviceTick_pibus]
  refine ⟨?_, secondStep_idleCounter_le _ _ hidle, secondStep_secDiv_le _ _, (Nat.sub_le _ _).trans hrelay,
    (Nat.sub_le _ _).trans hhold, heartbeatStep_hbDiv_le _ _ _, ?_, ?_, fun ha => by rw [harmed ha]⟩
  · simp only
    split <;> omega
  · cases hr : s.dev.ledReq with
    | none => simp
    | some p => exact fun _ => hreq (by simp [hr])
  · cases hr : s.dev.ledReq with
    | none =>
      simp only [if_true, Bool.and_eq_true, Bool.or_eq_true, decide_eq_true_eq]
      rintro ⟨hdue | hdue, _⟩
      · rw [hclear hdue]
      · rw [hdue]
    | some p =>
      have hnone : s.dev.ledClearPending = false := hreq (by simp [hr])
      simp [hnone]

theorem reset_dev_inv : State.reset.dev.Inv Config.pibus :=
  ⟨Nat.zero_le _, Nat.zero_le _, Nat.zero_le _, Nat.zero_le _, Nat.zero_le _, Nat.zero_le _, fun _ => rfl, fun _ => rfl,
    fun _ => rfl⟩

theorem exec_keeps_dev_inv (i : Instr) (s t : State) (h : exec i s = .next t) (hs : s.dev.Inv Config.pibus) :
    t.dev.Inv Config.pibus := by
  rcases exec_dev_cases i s t h with e | ⟨pkt, r, _, e⟩ | ⟨d, f, _, e⟩ | ⟨l, _, e⟩ | ⟨_, e⟩ | ⟨_, e⟩ | ⟨pkt, _, e⟩ |
    ⟨v, save, _, e⟩ | ⟨code, r, _, e⟩ <;> rw [e]
  · exact hs
  · exact react_inv _ pkt s.dev r hs
  · rcases receiveByte_dev_cases d f s with e | ⟨r, e⟩ <;> rw [e]
    · exact hs
    · exact completePacket_pibus_dev_inv (s.setRxc r) hs
  · exact deviceTick_pibus_dev_inv l s hs
  · exact completePacket_pibus_dev_inv s hs
  · exact reset_dev_inv
  · exact dispatchPacket_pibus_inv pkt s.dev hs
  · exact setSource_inv _ v save s.dev hs
  · exact loadLed_inv _ r s.dev hs

/-! TXQ -/

/-- What the invariant says of one entry of the queue, given whether the link is proven. -/
def Entry.Bounded (c : Params) (linkGood : Bool) (e : Entry) : Prop :=
  e.Inv c ∧ (linkGood = false → e.attempts ≤ c.retryLimit + 1)

theorem txq_inv_iff (c : Params) (q : Txq) :
    q.Inv c ↔ q.queue.length ≤ c.queueCapacity ∧ ∀ e ∈ q.queue, e.Bounded c q.linkGood :=
  ⟨fun ⟨hlen, hinv, hatt⟩ => ⟨hlen, fun e he => ⟨hinv e he, fun hl => hatt hl e he⟩⟩,
    fun ⟨hlen, hb⟩ => ⟨hlen, fun e he => (hb e he).1, fun hl e he => (hb e he).2 hl⟩⟩

/-- A proven link bounds the attempts no further (decision D32). -/
theorem Entry.Bounded.of_proven {c : Params} {lg : Bool} {e : Entry} (h : e.Bounded c lg) : e.Bounded c true :=
  ⟨h.1, nofun⟩

theorem entryTick_bounded (c : Params) (lg : Bool) (e : Entry) (h : e.Bounded c lg) : (entryTick e).Bounded c lg := by
  obtain ⟨⟨hpos, hmax, hframed, hcount, hatt⟩, hretry⟩ := h
  exact ⟨⟨hpos, hmax, hframed, (Nat.sub_le _ _).trans hcount, hatt⟩, hretry⟩

theorem clearAttempts_bounded (c : Params) (lg : Bool) (e : Entry) (h : e.Bounded c lg) :
    (clearAttempts e).Bounded c lg := by
  obtain ⟨⟨hpos, hmax, hframed, hcount, _⟩, _⟩ := h
  exact ⟨⟨hpos, hmax, hframed, hcount, Nat.zero_le _⟩, fun _ => Nat.zero_le _⟩

/-- An entry is sent on an unproven link only before its attempts pass RETRY_LIMIT (44_txqueue.md R178, R179). -/
theorem entrySent_bounded (c : Params) (lg : Bool) (e : Entry) (h : e.Bounded c lg)
    (hsend : ¬ (c.retryLimit < e.attempts ∧ lg = false)) : (entrySent c e).Bounded c lg := by
  obtain ⟨⟨hpos, hmax, hframed, _, _⟩, _⟩ := h
  refine ⟨⟨hpos, hmax, hframed, le_max_right _ _, min_le_right _ _⟩, fun hl => (min_le_left _ _).trans ?_⟩
  exact Nat.succ_le_succ (not_lt.mp fun hgt => hsend ⟨hgt, hl⟩)

/-- The entry of an accepted ENQ is framed, not empty and not too long (44_txqueue.md R170, R171). -/
theorem newEntry_bounded (c : Params) (lg : Bool) (b : Packet) (y : Bool) (g : Tag) (hpos : b.length ≠ 0)
    (hmax : b.length ≤ c.maxPacketSize) : (newEntry c b y g).Bounded c lg := by
  have hlen : (framed b).length = b.length := framed_length b (List.ne_nil_of_length_pos (Nat.pos_of_ne_zero hpos))
  refine ⟨⟨?_, ?_, verified_framed b, le_max_left _ _, Nat.zero_le _⟩, fun _ => Nat.zero_le _⟩
  · rw [newEntry, hlen]
    exact Nat.pos_of_ne_zero hpos
  · rw [newEntry, hlen]
    exact hmax

theorem scanFrom_bounded (c : Params) (lg : Bool) (i : Nat) (q : List Entry) (h : ∀ e ∈ q, e.Bounded c lg) :
    ∀ e ∈ (scanFrom c lg i q).entries, e.Bounded c lg := by
  induction q generalizing i with
  | nil => exact h
  | cons e rest ih =>
    have hrest := ih (i + 1) (List.forall_mem_cons.mp h).2
    have hhead := (List.forall_mem_cons.mp h).1
    simp only [scanFrom]
    split
    · exact h
    · split
      · split
        · exact h
        · rename_i hsend
          exact List.forall_mem_cons.mpr ⟨entrySent_bounded c lg e hhead hsend, hrest⟩
      · exact List.forall_mem_cons.mpr ⟨hhead, hrest⟩

/-- A property that the change of one element keeps holds of all elements after the change. -/
theorem forall_mem_modify {α : Type} (P : α → Prop) (f : α → α) (hf : ∀ a, P a → P (f a)) (l : List α) (i : Nat)
    (h : ∀ a ∈ l, P a) : ∀ a ∈ l.modify i f, P a := by
  induction l generalizing i with
  | nil => simp
  | cons a l ih =>
    obtain ⟨ha, hl⟩ := List.forall_mem_cons.mp h
    cases i with
    | zero => simpa using ⟨hf a ha, hl⟩
    | succ i => simpa using ⟨ha, ih i hl⟩

/-- A function that the change of one element does not affect gives the same values before and after. -/
theorem map_modify_of_comp_eq {α β : Type} (g : α → β) (f : α → α) (hf : ∀ a, g (f a) = g a) (l : List α) (i : Nat) :
    (l.modify i f).map g = l.map g := by
  induction l generalizing i with
  | nil => rw [List.modify_nil]
  | cons a l ih =>
    cases i with
    | zero => simp [hf]
    | succ i => simp [ih]

/-- A STICK keeps the number, the order, and of every entry the bytes, the sync flag and the tag (44_txqueue.md R172). -/
theorem serviceTick_keeps (c : Params) (ct cts li rxe : Bool) (s : State) :
    (serviceTick c ct cts li rxe s).txq.queue.map (fun e => (e.bytes, e.sync, e.tag)) =
      s.txq.queue.map fun e => (e.bytes, e.sync, e.tag) := by
  have hticked : (s.txq.queue.map entryTick).map (fun e => (e.bytes, e.sync, e.tag)) =
      s.txq.queue.map fun e => (e.bytes, e.sync, e.tag) := by rw [List.map_map]; rfl
  rcases serviceTick_queue_cases c ct cts li rxe s with ⟨e, _⟩ | ⟨e, _⟩ | ⟨i, _, e, _⟩ <;> rw [e]
  · exact hticked
  · rw [scanFrom_keeps, hticked]
  · rw [map_modify_of_comp_eq _ clearAttempts (fun _ => rfl), scanFrom_keeps, hticked]

theorem serviceTick_txq_inv (c : Params) (ct cts li rxe : Bool) (s : State) (h : s.txq.Inv c) :
    (serviceTick c ct cts li rxe s).txq.Inv c := by
  obtain ⟨hlen, hb⟩ := (txq_inv_iff c s.txq).mp h
  obtain ⟨_, _, _, _, hlink⟩ := serviceTick_frame c ct cts li rxe s
  have hnumber := congrArg List.length (serviceTick_keeps c ct cts li rxe s)
  rw [List.length_map, List.length_map] at hnumber
  have hticked : ∀ e ∈ s.txq.queue.map entryTick, e.Bounded c s.txq.linkGood :=
    List.forall_mem_map.mpr fun e he => entryTick_bounded c _ e (hb e he)
  have hscanned := scanFrom_bounded c s.txq.linkGood 0 _ hticked
  rw [txq_inv_iff, hnumber, hlink]
  refine ⟨hlen, ?_⟩
  rcases serviceTick_queue_cases c ct cts li rxe s with ⟨e, _⟩ | ⟨e, _⟩ | ⟨i, _, e, _⟩ <;> rw [e]
  · exact hticked
  · exact hscanned
  · exact forall_mem_modify _ _ (clearAttempts_bounded c _) _ i hscanned

/-- Removing entries keeps the bounds, and so does latching `link_good`. -/
theorem txq_inv_of_sublist (c : Params) (q : Txq) (l : List Entry) (lg : Bool) (h : q.Inv c) (hl : l.Sublist q.queue)
    (hg : lg = q.linkGood ∨ lg = true) : Txq.Inv c { queue := l, linkGood := lg } := by
  obtain ⟨hlen, hb⟩ := (txq_inv_iff c q).mp h
  refine (txq_inv_iff c _).mpr ⟨hl.length_le.trans hlen, fun e he => ?_⟩
  rcases hg with rfl | rfl
  · exact hb e (hl.subset he)
  · exact (hb e (hl.subset he)).of_proven

theorem removeMatching_inv (c : Params) (b : Packet) (q : Txq) (h : q.Inv c) : (removeMatching c b q).Inv c := by
  rcases removeMatching_cases c b q with e | ⟨before, x, after, hq, _, _, e⟩ <;> rw [e]
  · exact h
  · refine txq_inv_of_sublist c q _ true h ?_ (.inr rfl)
    rw [hq]
    exact (List.sublist_cons_self x after).append_left before

theorem enqueue_txq_inv (c : Params) (b : Packet) (y : Bool) (g : Tag) (p : Bool) (s : State) (h : s.txq.Inv c) :
    (enqueue c b y g p s).txq.Inv c := by
  rcases enqueue_cases c b y g p s with ⟨_, e⟩ | ⟨hpos, hmax, hroom, e⟩ <;> rw [e]
  · exact h
  · obtain ⟨hlen, hb⟩ := (txq_inv_iff c s.txq).mp h
    have hnew := newEntry_bounded c s.txq.linkGood b y g hpos hmax
    rw [txq_inv_iff]
    cases p with
    | true => exact ⟨Nat.lt_of_le_of_ne hlen hroom, List.forall_mem_cons.mpr ⟨hnew, hb⟩⟩
    | false =>
      refine ⟨?_, List.forall_mem_append.mpr ⟨hb, List.forall_mem_singleton.mpr hnew⟩⟩
      simpa using Nat.lt_of_le_of_ne hlen hroom

theorem reset_txq_inv : State.reset.txq.Inv Config.pibus := ⟨Nat.zero_le _, nofun, nofun⟩

theorem exec_keeps_txq_inv (i : Instr) (s t : State) (h : exec i s = .next t) (hs : s.txq.Inv Config.pibus) :
    t.txq.Inv Config.pibus := by
  rcases exec_txq_cases i s t h with e | ⟨_, b, e⟩ | ⟨b, y, g, p, _, e⟩ | ⟨ct, cts, li, rxe, _, e⟩ | ⟨g, _, e⟩ | ⟨_, e⟩ |
    ⟨_, e⟩ <;> rw [e]
  · exact hs
  · exact removeMatching_inv _ b s.txq hs
  · exact enqueue_txq_inv _ b y g p s hs
  · exact serviceTick_txq_inv _ ct cts li rxe s hs
  · exact txq_inv_of_sublist _ s.txq _ _ hs List.filter_sublist (.inl rfl)
  · exact txq_inv_of_sublist _ s.txq _ _ hs (List.nil_sublist _) (.inl rfl)
  · exact reset_txq_inv

/-! The output trace -/

/-- An event that is no TX and no OBSERVE, or carries a packet with its checksum. -/
def OutEvent.Framed : OutEvent → Prop
  | .tx b => verified b = true
  | .observe b => verified b = true
  | _ => True

theorem framedOutput_iff (out : List OutEvent) : framedOutput out ↔ ∀ x ∈ out, x.Framed := by
  constructor
  · intro h x hx
    cases x with
    | tx b => exact h b (.inl hx)
    | observe b => exact h b (.inr hx)
    | txFlush | enqReject | accOverflow => trivial
  · rintro h b (hb | hb)
    · exact h _ hb
    · exact h _ hb

theorem framedOutput_append (a b : List OutEvent) : framedOutput (a ++ b) ↔ framedOutput a ∧ framedOutput b := by
  simp only [framedOutput_iff, List.forall_mem_append]

theorem framedOutput_singleton (x : OutEvent) : framedOutput [x] ↔ x.Framed := by
  rw [framedOutput_iff, List.forall_mem_singleton]

/-- A STICK transmits entries only, and an entry is framed since ENQ (44_txqueue.md R170, R179). -/
theorem serviceTick_framedOutput (c : Params) (ct cts li rxe : Bool) (s : State) (hq : s.txq.Inv c)
    (ho : framedOutput s.out) : framedOutput (serviceTick c ct cts li rxe s).out := by
  obtain ⟨_, hentries, _⟩ := hq
  obtain ⟨es, hes, hmem⟩ := serviceTick_out c ct cts li rxe s
  rw [hes, framedOutput_append]
  refine ⟨ho, (framedOutput_iff es).mpr fun x hx => ?_⟩
  rcases hmem x hx with rfl | ⟨e, he, hbytes⟩
  · trivial
  · obtain ⟨_, _, hframed, _⟩ := hentries e he
    rcases hbytes with rfl | rfl
    · exact hframed
    · exact hframed

theorem exec_keeps_framedOutput (i : Instr) (s t : State) (h : exec i s = .next t) (hq : s.txq.Inv Config.pibus)
    (ho : framedOutput s.out) : framedOutput t.out := by
  rcases exec_out_cases i s t h with e | ⟨d, _, e⟩ | ⟨_, b, e⟩ | ⟨b, y, g, p, _, e⟩ | ⟨ct, cts, li, rxe, _, e⟩ |
    ⟨_, e⟩ <;> rw [e]
  · exact ho
  · exact (framedOutput_append _ _).mpr ⟨ho, (framedOutput_singleton _).mpr trivial⟩
  · exact (framedOutput_append _ _).mpr ⟨ho, (framedOutput_singleton _).mpr (verified_framed b)⟩
  · exact (framedOutput_append _ _).mpr ⟨ho, (framedOutput_singleton _).mpr trivial⟩
  · exact serviceTick_framedOutput _ ct cts li rxe s hq ho
  · exact (framedOutput_iff []).mpr nofun

/-! The whole state -/

/-- Every operation keeps the invariant of the machine. -/
theorem exec_keeps_inv (i : Instr) (s t : State) (h : exec i s = .next t) (hs : s.Inv Config.pibus) : t.Inv Config.pibus := by
  obtain ⟨hrxc, hdev, htxq, hout⟩ := hs
  exact ⟨exec_keeps_rxc_inv i s t h hrxc, exec_keeps_dev_inv i s t h hdev, exec_keeps_txq_inv i s t h htxq,
    exec_keeps_framedOutput i s t h htxq hout⟩

/-! The statements -/

/-- Settles O46: every operation keeps the invariant, which does not speak of the events to come. -/
theorem stepKeepsTheBounds : Obligations.StepKeepsTheBounds := by
  unfold Obligations.StepKeepsTheBounds
  intro s t hs h
  rcases step_cases s with e | ⟨i, inbox, e⟩ | ⟨r, e⟩
  · cases e.symm.trans h
    exact hs
  · exact exec_keeps_inv i _ t (e.symm.trans h) hs
  · cases e.symm.trans h

/-- Settles O47. -/
theorem resetIsWithinTheBounds : Obligations.ResetIsWithinTheBounds := by
  unfold Obligations.ResetIsWithinTheBounds
  exact ⟨reset_rxc_inv, reset_dev_inv, reset_txq_inv, (framedOutput_iff []).mpr nofun⟩

end Sys2Proof.Machine
end

section
/-! PROOFS. The decoder and the encoder undo each other (30_encoding.md R74, R77), and the statements about frames. -/

namespace Sys2Proof.Machine

open Sys2Proof

/-! Decoding what was encoded -/

theorem decode_opFrame (c : Params) (o : Opcode) (args : List Byte) : decode c (opFrame o args) = readOperands o args := by
  simp only [decode, opFrame, decodeOperation, opcodeOf_codeByte]

theorem decode_pktFrame (c : Params) (pkt : Packet) : decode c (pktFrame pkt) = .ok (decodePacket c pkt) := rfl

theorem decodePacket_of_select (c : Params) (pkt : Packet) (r : Reaction) (h : selectReaction c pkt = some r) :
    decodePacket c pkt = reactionInstr pkt r := by
  rw [decodePacket, h]

/-- The packet of a reaction decodes to the reaction that the packet selects (30_encoding.md R77). -/
theorem decode_pktFrame_of_select (c : Params) (pkt : Packet) (r : Reaction) (h : (selectReaction c pkt == some r) = true) :
    decode c (pktFrame pkt) = .ok (reactionInstr pkt r) := by
  rw [decode_pktFrame, decodePacket_of_select c pkt r (beq_iff_eq.mp h)]

/-- Settles O54: the identifier names the operation, each operand's reader undoes its writer, and a reaction is the one its
packet selects. -/
theorem decodeOfEncodeIsTheInstruction : Obligations.DecodeOfEncodeIsTheInstruction := by
  unfold Obligations.DecodeOfEncodeIsTheInstruction
  intro c i hwf
  cases i with
  | cycle pkt => exact decode_pktFrame_of_select c pkt .cycle hwf
  | gear pkt => exact decode_pktFrame_of_select c pkt .gear hwf
  | fob pkt => exact decode_pktFrame_of_select c pkt .fob hwf
  | cdcEnter pkt => exact decode_pktFrame_of_select c pkt .cdcEnter hwf
  | cdcExitBtn pkt => exact decode_pktFrame_of_select c pkt .cdcExitBtn hwf
  | cdcExitMenu pkt => exact decode_pktFrame_of_select c pkt .cdcExitMenu hwf
  | rxbyte d f => rw [encode, decode_opFrame]; simp only [readOperands, readFault_setWidth]
  | setsrc v save => rw [encode, decode_opFrame]; simp only [readOperands, readSource_code, readBit_bitByte]
  | ledreq r => rw [encode, decode_opFrame]; simp only [readOperands, readLedReq_code]
  | dtick _ | stick _ _ _ _ | enq _ _ _ _ => rw [encode, decode_opFrame]; simp only [readOperands, readBit_bitByte]
  | rmmatch _ | rmtag _ | discard | reset | chk _ | xsize _ | frame _ | verify _ | accreset | complete | dispatch _
  | txemit _ => exact decode_opFrame c _ _

/-! Encoding what was decoded -/

/-- What the operand bytes of an operation are read as is well-formed, and is written as these bytes: each operand's writer
undoes its reader, and no byte is dropped (30_encoding.md R74). -/
theorem encode_of_readOperands (c : Params) (o : Opcode) (args : List Byte) (i : Instr) (h : readOperands o args = .ok i) :
    i.wf c = true ∧ encode i = opFrame o args := by
  cases o <;> simp only [readOperands] at h
  case rmmatch | chk | frame | verify | dispatch | txemit => cases h; exact ⟨rfl, rfl⟩
  case discard | reset | accreset | complete | rmtag | xsize => split at h <;> cases h; exact ⟨rfl, rfl⟩
  case rxbyte =>
    split at h
    · split at h <;> cases h
      rename_i hf
      exact ⟨rfl, by rw [encode, setWidth_of_readFault _ _ hf]⟩
    · cases h
  case dtick =>
    split at h
    · split at h <;> cases h
      rename_i hb
      exact ⟨rfl, by rw [encode, bitByte_of_readBit _ _ hb]⟩
    · cases h
  case stick =>
    split at h
    · split at h <;> cases h
      rename_i h0 h1 h2 h3
      exact ⟨rfl, by rw [encode, bitByte_of_readBit _ _ h0, bitByte_of_readBit _ _ h1, bitByte_of_readBit _ _ h2,
        bitByte_of_readBit _ _ h3]⟩
    · cases h
  case enq =>
    split at h
    · split at h <;> cases h
      rename_i h0 h1
      exact ⟨rfl, by rw [encode, bitByte_of_readBit _ _ h0, bitByte_of_readBit _ _ h1]⟩
    · cases h
  case setsrc =>
    split at h
    · split at h <;> cases h
      rename_i hv hb
      exact ⟨rfl, by rw [encode, code_of_readSource _ _ hv, bitByte_of_readBit _ _ hb]⟩
    · cases h
  case ledreq =>
    split at h
    · split at h <;> cases h
      rename_i hr
      exact ⟨rfl, by rw [encode, code_of_readLedReq _ _ hr]⟩
    · cases h

/-- An operation frame that decodes is the frame of its operation. -/
theorem encode_of_decodeOperation (c : Params) (bytes : List Byte) (i : Instr) (h : decodeOperation bytes = .ok i) :
    i.wf c = true ∧ encode i = { kind := .operation, bytes := bytes } := by
  cases bytes with
  | nil => cases h
  | cons b args =>
    simp only [decodeOperation] at h
    split at h
    · cases h
    · rename_i o ho
      have hid : codeByte (opcodeId o) = b := by
        rw [opcodeId_of_opcodeOf _ _ ho, codeByte, BitVec.ofNat_toNat, BitVec.setWidth_eq]
      obtain ⟨hwf, henc⟩ := encode_of_readOperands c o args i h
      exact ⟨hwf, by rw [henc, opFrame, hid]⟩

/-- A reaction is well-formed exactly when its packet selects it, and its frame is its packet (30_encoding.md R77). -/
theorem reactionInstr_wf (c : Params) (pkt : Packet) (r : Reaction) (h : selectReaction c pkt = some r) :
    (reactionInstr pkt r).wf c = true ∧ encode (reactionInstr pkt r) = pktFrame pkt := by
  cases r <;> exact ⟨beq_iff_eq.mpr h, rfl⟩

/-- Settles O55: a packet frame is the frame of the reaction it selects, if it selects one. -/
theorem encodeOfDecodeIsTheFrameUnlessNoRowMatches : Obligations.EncodeOfDecodeIsTheFrameUnlessNoRowMatches := by
  unfold Obligations.EncodeOfDecodeIsTheFrameUnlessNoRowMatches
  rintro c ⟨kind, bytes⟩ i h
  cases kind with
  | operation =>
    obtain ⟨hwf, henc⟩ := encode_of_decodeOperation c bytes i h
    exact ⟨hwf, .inl henc⟩
  | packet =>
    cases h
    cases hsel : selectReaction c bytes with
    | some r =>
      rw [decodePacket_of_select c bytes r hsel]
      obtain ⟨hwf, henc⟩ := reactionInstr_wf c bytes r hsel
      exact ⟨hwf, .inl henc⟩
    | none =>
      rw [decodePacket, hsel]
      exact ⟨rfl, .inr ⟨rfl, rfl, rfl⟩⟩

/-! Frames that decode, and frames that do not -/

/-- Settles O56. -/
theorem unassignedIdentifiersAreRefused : Obligations.UnassignedIdentifiersAreRefused := by
  unfold Obligations.UnassignedIdentifiersAreRefused
  intro b args rest s hb hin
  have hunassigned : ∀ n < 0x20, (0x08 ≤ n ∧ n ≤ 0x0F) ∨ (0x1A ≤ n ∧ n ≤ 0x1F) → opcodeOf n = none := by decide
  refine step_of_decode_error s _ rest _ hin ?_
  simp only [decode, decodeOperation, hunassigned b.toNat (by omega) hb]

/-- Settles O57. -/
theorem writtenWordsDecode : Obligations.WrittenWordsDecode := by
  unfold Obligations.WrittenWordsDecode
  exact ⟨rfl, rfl, rfl, rfl, rfl⟩

/-- A byte below 2 is a 1-bit operand. -/
theorem readBit_of_lt (b : Byte) (h : b.toNat < 2) : ∃ v, readBit b = some v := by
  have hbit : b = 0 ∨ b = 1 := by bv_omega
  rcases hbit with rfl | rfl
  · exact ⟨false, rfl⟩
  · exact ⟨true, rfl⟩

/-- A byte below 5 is a code of `led_req` (30_encoding.md R85). -/
theorem readLedReq_of_lt (b : Byte) (h : b.toNat < 5) : ∃ r, readLedReq b = some r := by
  have hcode : b = 0 ∨ b = 1 ∨ b = 2 ∨ b = 3 ∨ b = 4 := by bv_omega
  rcases hcode with rfl | rfl | rfl | rfl | rfl <;> exact ⟨_, rfl⟩

/-- An operation whose only operand is a byte sequence. -/
def bytesOpcodes : List Opcode := [.rmmatch, .chk, .frame, .verify, .dispatch, .txemit]

theorem readOperands_bytesOpcodes (o : Opcode) (ho : o ∈ bytesOpcodes) (args : List Byte) :
    ∃ i, readOperands o args = .ok i := by
  simp only [bytesOpcodes, List.mem_cons, List.not_mem_nil, or_false] at ho
  rcases ho with rfl | rfl | rfl | rfl | rfl | rfl <;> exact ⟨_, rfl⟩

/-- An operation frame decodes if its operand bytes can be read. -/
theorem decode_of_readOperands (c : Params) (o : Opcode) (args bytes : List Byte) (hb : bytes = codeByte (opcodeId o) :: args)
    (hr : ∃ i, readOperands o args = .ok i) : ∃ i, decode c { kind := .operation, bytes := bytes } = .ok i := by
  obtain ⟨i, hi⟩ := hr
  exact ⟨i, hb ▸ (decode_opFrame c o args).trans hi⟩

/-- A step on a frame that decodes gives a next state, since every operation completes. -/
theorem step_next_of_decode (s : State) (f : Frame) (rest : List Frame) (hin : s.inbox = f :: rest)
    (hd : ∃ i, decode Config.pibus f = .ok i) : ∃ t, step s = .next t := by
  obtain ⟨i, hi⟩ := hd
  obtain ⟨t, ht⟩ := exec_completes i { s with inbox := rest }
  exact ⟨t, (step_of_decode_ok s f rest i hin hi).trans ht⟩

/-- Settles O59: every frame named there decodes. -/
theorem byteSequencesAreNeverRefused : Obligations.ByteSequencesAreNeverRefused := by
  unfold Obligations.ByteSequencesAreNeverRefused
  rintro ⟨kind, bytes⟩ rest s hin hshape
  refine step_next_of_decode s _ rest hin ?_
  cases kind with
  | packet => exact ⟨_, rfl⟩
  | operation =>
    rcases hshape with hk | ⟨d, fault, hlt, hb⟩ | ⟨sync, tag, prepend, args, hs, hp, hb⟩ | ⟨x, hb | hb⟩ | ⟨b, args, hmem, hb⟩ |
      ⟨code, hlt, hb⟩
    · cases hk
    · have hfault : readFault fault = some (fault.setWidth 3) := if_pos hlt
      exact decode_of_readOperands _ .rxbyte _ _ hb ⟨.rxbyte d (fault.setWidth 3), by simp only [readOperands, hfault]⟩
    · obtain ⟨y, hs⟩ := readBit_of_lt sync hs
      obtain ⟨p, hp⟩ := readBit_of_lt prepend hp
      exact decode_of_readOperands _ .enq _ _ hb ⟨.enq args y tag p, by simp only [readOperands, hs, hp]⟩
    · exact decode_of_readOperands _ .rmtag _ _ hb ⟨_, rfl⟩
    · exact decode_of_readOperands _ .xsize _ _ hb ⟨_, rfl⟩
    · obtain ⟨o, ho, rfl⟩ : ∃ o ∈ bytesOpcodes, codeByte (opcodeId o) = b := List.mem_map.mp hmem
      exact decode_of_readOperands _ o args _ hb (readOperands_bytesOpcodes o ho args)
    · obtain ⟨r, hr⟩ := readLedReq_of_lt code hlt
      exact decode_of_readOperands _ .ledreq _ _ hb ⟨.ledreq r, by simp only [readOperands, hr]⟩

end Sys2Proof.Machine
end

section
/-! PROOFS. The round trip of framing (40_framing.md R104), and whole packets: a completing byte, the bytes before it, and what
discards them (41_receive.md). -/

namespace Sys2Proof.Machine

open Sys2Proof

/-- Settles O5. -/
theorem roundTripFramingLaw : Obligations.RoundTripFramingLaw := by
  unfold Obligations.RoundTripFramingLaw
  intro b s hb
  refine ⟨framed b, checksum (framed b).dropLast, exec_frame_of_ne_nil b s hb, ?_, exec_chk _ s,
    (verified_iff_getLast? _).mp (verified_framed b)⟩
  rw [exec_verify_of_ne_nil _ s (framed_ne_nil b), verified_framed]

/-! One byte -/

/-- Settles O7. -/
theorem byteAtFullAccumulatorIsDropped : Obligations.ByteAtFullAccumulatorIsDropped := by
  unfold Obligations.ByteAtFullAccumulatorIsDropped
  intro d s hfull
  rcases receiveByte_cases d 0 s with ⟨h0, _⟩ | ⟨_, _, e⟩ | ⟨_, hroom, _⟩ | ⟨_, hroom, _⟩
  · exact absurd rfl h0
  · rw [exec_rxbyte, e]
    rfl
  · exact absurd hfull hroom
  · exact absurd hfull hroom

/-- A completing byte is stored, and then COMPLETE is performed (41_receive.md R113, R114). -/
theorem exec_rxbyte_of_completesPacket (d : Byte) (s : State) (h : completesPacket (.rxbyte d 0) s) :
    exec (.rxbyte d 0) s = exec .complete (s.setRxc (storeByte s.rxc d)) := by
  obtain ⟨hc, hk⟩ := (completesPacket_rxbyte_iff d s).mp h
  rcases exec_rxbyte_of_cursor_lt d s hc with ⟨_, e⟩ | ⟨hk', _⟩
  · rw [e, exec_complete]
  · rw [hk] at hk'
    cases hk'

/-- A byte that is stored and completes no packet loads the timeout (41_receive.md R113). -/
theorem exec_rxbyte_of_not_completesPacket (d : Byte) (s : State) (hc : s.rxc.cursor < 32)
    (h : ¬ completesPacket (.rxbyte d 0) s) :
    exec (.rxbyte d 0) s = .next ((s.setRxc { storeByte s.rxc d with rxTimeout := 1 }).answer .nothing) := by
  rcases exec_rxbyte_of_cursor_lt d s hc with ⟨hk, _⟩ | ⟨_, e⟩
  · exact absurd ((completesPacket_rxbyte_iff d s).mpr ⟨hc, hk⟩) h
  · exact e

/-- With the byte at the cursor, the accumulated packet is what was accumulated and then the byte (20_memory.md R50a). -/
theorem accumulated_storeByte (r : Rxc) (d : Byte) (h : r.cursor < r.acc.length) :
    accumulated (storeByte r d) = accumulated r ++ [d] := by
  rw [accumulated_eq, accumulated_eq, storeByte_acc, storeByte_cursor, List.take_succ_eq_append_getElem (by simpa using h),
    List.take_set_of_le le_rfl, List.getElem_set_self]

/-- Settles O11. -/
theorem completingByteRunsComplete : Obligations.CompletingByteRunsComplete := by
  unfold Obligations.CompletingByteRunsComplete
  intro d s hlen h
  obtain ⟨hc, _⟩ := (completesPacket_rxbyte_iff d s).mp h
  refine ⟨_, exec_rxbyte_of_completesPacket d s h, rfl, ?_⟩
  have hpkt := accumulated_storeByte s.rxc d (by omega)
  rw [accumulated_eq, accumulated_eq] at hpkt
  rw [completePacket_pibus]
  exact ⟨rfl, rfl, rfl, rfl, hpkt⟩

/-! A packet byte by byte -/

/-- A packet of a receivable size that says its size (41_receive.md R114). -/
def Receivable (p : Packet) : Prop := 5 ≤ p.length ∧ p.length ≤ 32 ∧ (p.getD 1 0).toNat + 2 = p.length

/-- The accumulator that holds exactly `q`, written over `acc` from its first byte on. -/
def Rxc.Holds (r : Rxc) (q : Packet) (acc : List Byte) : Prop := r.acc = q ++ acc.drop q.length ∧ r.cursor = q.length

/-- Storing the next byte of a packet behind the ones held. -/
theorem Rxc.Holds.storeByte {r : Rxc} {q : Packet} {acc : List Byte} (h : r.Holds q acc) (hlen : q.length < acc.length)
    (x : Byte) : (storeByte r x).Holds (q ++ [x]) acc := by
  obtain ⟨hacc, hcursor⟩ := h
  refine ⟨?_, by rw [storeByte_cursor, hcursor, List.length_append, List.length_singleton]⟩
  rw [storeByte_acc, hacc, hcursor, List.set_append_right _ _ le_rfl, Nat.sub_self, List.drop_eq_getElem_cons hlen,
    List.set_cons_zero, List.append_assoc, List.length_append, List.length_singleton]
  rfl

theorem Rxc.Holds.accumulated_eq {r : Rxc} {q : Packet} {acc : List Byte} (h : r.Holds q acc) : accumulated r = q := by
  obtain ⟨hacc, hcursor⟩ := h
  rw [Machine.accumulated_eq, hacc, hcursor, List.take_left]

/-- Byte 1 of the bytes held is byte 1 of the packet they begin. -/
theorem Rxc.Holds.getD_one {r : Rxc} {q : Packet} {acc : List Byte} (h : r.Holds q acc) (p : Packet) (hq : q <+: p)
    (hlen : 1 < q.length) : r.acc.getD 1 0 = p.getD 1 0 := by
  obtain ⟨rest, rfl⟩ := hq
  rw [h.1, List.getD_append _ _ _ _ hlen, List.getD_append _ _ _ _ hlen]

/-- With the first bytes of a packet stored, the completion test holds exactly when they are all of it (41_receive.md R114). -/
theorem Rxc.Holds.isComplete_iff {r : Rxc} {q : Packet} {acc : List Byte} (h : r.Holds q acc) (p : Packet) (hq : q <+: p)
    (hp : Receivable p) : isComplete Config.pibus r = true ↔ q.length = p.length := by
  obtain ⟨hmin, _, hsize⟩ := hp
  rw [isComplete_pibus, h.2]
  constructor
  · rintro ⟨h5, hdeclared⟩
    rw [h.getD_one p hq (by omega)] at hdeclared
    omega
  · intro hlen
    rw [h.getD_one p hq (by omega)]
    omega

/-- The first bytes of a packet, short of all, are accumulated and change nothing else (41_receive.md R113). -/
theorem runOps_rxpkt_prefix (p : Packet) (s : State) (hacc : s.rxc.acc.length = 32) (hempty : s.rxc.cursor = 0)
    (hp : Receivable p) (q : Packet) (hq : q <+: p) (hproper : q.length < p.length) :
    ∃ t, runOps (rxpkt q) s = .next t ∧ t.rxc.Holds q s.rxc.acc ∧
      t.dev = s.dev ∧ t.txq = s.txq ∧ t.out = s.out ∧ t.inbox = s.inbox := by
  have hmax : p.length ≤ 32 := hp.2.1
  induction q using List.reverseRecOn with
  | nil => exact ⟨s, rfl, ⟨rfl, hempty⟩, rfl, rfl, rfl, rfl⟩
  | append_singleton q x ih =>
    rw [List.length_append, List.length_singleton] at hproper
    obtain ⟨t, hrun, hholds, hdev, htxq, hout, hinbox⟩ := ih ((List.prefix_append q [x]).trans hq) (by omega)
    have hstored := hholds.storeByte (by omega) x
    have hroom : t.rxc.cursor < 32 := by rw [hholds.2]; omega
    have hpartial : ¬ completesPacket (.rxbyte x 0) t := by
      rw [completesPacket_rxbyte_iff, hstored.isComplete_iff p hq hp, List.length_append, List.length_singleton]
      omega
    refine ⟨(t.setRxc { storeByte t.rxc x with rxTimeout := 1 }).answer .nothing, ?_, hstored, hdev, htxq, hout, hinbox⟩
    rw [rxpkt_append, runOps_append _ _ s t hrun]
    exact runOps_cons _ _ t _ (exec_rxbyte_of_not_completesPacket x t hroom hpartial)

/-- DISPATCH reads DEV state only (42_reactions.md R130). -/
theorem exec_dispatch (pkt : Packet) (s : State) :
    exec (.dispatch pkt) s = .next ((s.setDev (dispatchPacket Config.pibus pkt s.dev)).answer .nothing) := rfl

/-- The last byte of a packet, after all the others, completes it (41_receive.md R114, R115). -/
theorem runOps_rxpkt_whole (p : Packet) (s : State) (hacc : s.rxc.acc.length = 32) (hempty : s.rxc.cursor = 0)
    (hp : Receivable p) :
    ∃ t, runOps (rxpkt p) s = .next t ∧ t.rxc = { acc := p ++ s.rxc.acc.drop p.length, cursor := 0, rxTimeout := 0 } ∧
      t.dev = { dispatchPacket Config.pibus p s.dev with idleCounter := 0, secDiv := 0 } ∧
      t.txq = removeMatching Config.pibus p s.txq ∧ t.out = s.out ∧ t.inbox = s.inbox := by
  have ⟨hmin, hmax, _⟩ := hp
  obtain ⟨q, x, rfl⟩ := (List.eq_nil_or_concat' p).resolve_left (List.ne_nil_of_length_pos (by omega))
  have hlen : (q ++ [x]).length = q.length + 1 := by rw [List.length_append, List.length_singleton]
  obtain ⟨t, hrun, hholds, hdev, htxq, hout, hinbox⟩ :=
    runOps_rxpkt_prefix (q ++ [x]) s hacc hempty hp q (List.prefix_append q [x]) (by omega)
  have hstored := hholds.storeByte (by omega) x
  have hcomplete : completesPacket (.rxbyte x 0) t := by
    rw [completesPacket_rxbyte_iff, hstored.isComplete_iff _ List.prefix_rfl hp, hholds.2]
    exact ⟨by omega, rfl⟩
  refine ⟨(completePacket Config.pibus (t.setRxc (storeByte t.rxc x))).answer .nothing, ?_, ?_⟩
  · rw [rxpkt_append, runOps_append _ _ s t hrun]
    exact runOps_cons _ _ t _ (exec_rxbyte_of_completesPacket x t hcomplete)
  · rw [completePacket_pibus, State.setRxc_rxc, hstored.accumulated_eq, State.setRxc_dev, State.setRxc_txq, hdev, htxq]
    refine ⟨?_, rfl, rfl, hout, hinbox⟩
    rw [State.answer_rxc, accReset, hstored.1]

/-- Settles O12. -/
theorem wholePacketIsReceivedAndDispatched : Obligations.WholePacketIsReceivedAndDispatched := by
  unfold Obligations.WholePacketIsReceivedAndDispatched
  intro p s hacc hempty hmin hmax hsize
  have hp : Receivable p := ⟨hmin, hmax, hsize⟩
  refine ⟨?_, fun n hpos hn => ?_⟩
  · obtain ⟨t, hrun, hrxc, hdev, htxq, hout, hinbox⟩ := runOps_rxpkt_whole p s hacc hempty hp
    exact ⟨t, _, _, hrun, exec_dispatch p s, exec_rmmatch p s, by rw [hrxc], by rw [hrxc], by rw [hrxc], hdev, htxq, hout,
      hinbox⟩
  · have hlen : (p.take n).length = n := List.length_take_of_le hn.le
    obtain ⟨t, hrun, hholds, hdev, htxq, hout, _⟩ :=
      runOps_rxpkt_prefix p s hacc hempty hp (p.take n) (List.take_prefix n p) (by omega)
    refine ⟨t, hrun, ?_, by rw [← accumulated_eq, hholds.accumulated_eq], hdev, htxq, hout⟩
    rw [rxcState, hholds.2, hlen, if_neg hpos.ne']

/-! The timeout -/

/-- Settles O14: within the bounds the timeout is at most 1, so the timeout step empties the accumulator. -/
theorem dtickDiscardsAPartialPacket : Obligations.DtickDiscardsAPartialPacket := by
  unfold Obligations.DtickDiscardsAPartialPacket
  intro l s
  refine ⟨_, exec_dtick l s, ?_⟩
  rw [deviceTick_pibus]
  refine ⟨fun hle => ?_, fun hgt => ?_, fun ⟨hrxc, _⟩ => ?_, rfl, rfl, rfl⟩
  · rcases timeoutStep_cases s.rxc with ⟨_, e⟩ | ⟨hgt, _⟩
    · exact e
    · omega
  · rcases timeoutStep_cases s.rxc with ⟨hle, _⟩ | ⟨_, e⟩
    · omega
    · exact e
  · rw [State.answer_rxc, timeoutStep_eq_accReset_of_inv s.rxc hrxc, accReset_cursor]

end Sys2Proof.Machine
end

section
/-! PROOFS. Which row a packet selects (30_encoding.md R77), DISPATCH, the long press (42_reactions.md R130, R134), and the two
sources under any operation (R133). -/

namespace Sys2Proof.Machine

open Sys2Proof

/-! DISPATCH -/

/-- A packet selects CYCLE exactly if it matches the first row. -/
theorem selectReaction_eq_cycle_iff (c : Params) (pkt : Packet) :
    selectReaction c pkt = some .cycle ↔ patMatches c.patCycle pkt = true := by
  rw [selectReaction_eq]
  repeat' split
  all_goals simp_all

/-- PAT_CYCLE compares whole bytes (00_scope.md R9). -/
theorem patMatches_patCycle_iff (pkt : Packet) :
    patMatches Config.patCycle pkt = true ↔ ∃ x, pkt = [0xF0, 0x04, 0xFF, 0x48, 0x08, x] := by
  rw [patMatches_iff]
  have hmask (x : Byte) : x &&& 0xFF#8 = x := BitVec.and_allOnes
  constructor
  · rintro ⟨hlen, hbytes⟩
    obtain ⟨a, b, c, d, e, x, rfl⟩ : ∃ a b c d e x, pkt = [a, b, c, d, e, x] := by
      match pkt, hlen with
      | [a, b, c, d, e, x], _ => exact ⟨a, b, c, d, e, x, rfl⟩
    have ha := hbytes 0 (by decide)
    have hb := hbytes 1 (by decide)
    have hc := hbytes 2 (by decide)
    have hd := hbytes 3 (by decide)
    have he := hbytes 4 (by decide)
    simp only [packetByte, Config.patCycle, List.getD_cons_zero, List.getD_cons_succ, BitVec.ofNat_eq_ofNat, hmask]
      at ha hb hc hd he
    exact ⟨x, by rw [ha, hb, hc, hd, he]; rfl⟩
  · rintro ⟨x, rfl⟩
    refine ⟨rfl, fun i hi => ?_⟩
    have hsame : ∀ i < 5, packetByte [0xF0, 0x04, 0xFF, 0x48, 0x08, x] i = packetByte Config.patCycle.want i := by
      intro i hi
      interval_cases i <;> rfl
    rw [hsame i hi]

/-- Settles O16. -/
theorem cycleIsSelectedByItsButtonPacket : Obligations.CycleIsSelectedByItsButtonPacket := by
  unfold Obligations.CycleIsSelectedByItsButtonPacket
  intro pkt
  rw [selectReaction_eq_cycle_iff, Config.pibus_patCycle, patMatches_patCycle_iff]

/-- A reaction presented directly does what its row does (42_reactions.md R131). -/
theorem exec_reactionInstr (pkt : Packet) (r : Reaction) (s : State) :
    exec (reactionInstr pkt r) s = .next ((s.setDev (react Config.pibus pkt s.dev r)).answer .nothing) := by
  cases r <;> rfl

/-- DISPATCH of a packet that selects a row is that row's reaction (42_reactions.md R130). -/
theorem exec_dispatch_of_select_some (pkt : Packet) (s : State) (r : Reaction) (h : selectReaction Config.pibus pkt = some r) :
    exec (.dispatch pkt) s = exec (reactionInstr pkt r) s := by
  rw [exec_dispatch, dispatchPacket_pibus, h, exec_reactionInstr]

/-- DISPATCH of a packet that selects no row does nothing (42_reactions.md R138). -/
theorem exec_dispatch_of_select_none (pkt : Packet) (s : State) (h : selectReaction Config.pibus pkt = none) :
    exec (.dispatch pkt) s = .next (s.answer .nothing) := by
  rw [exec_dispatch, dispatchPacket_pibus, h]
  rfl

/-- Settles O17: the selected row is found by the same chain of tests. -/
theorem dispatchFiresTheFirstMatchingRow : Obligations.DispatchFiresTheFirstMatchingRow := by
  unfold Obligations.DispatchFiresTheFirstMatchingRow
  refine fun pkt s => ⟨_, exec_dispatch pkt s, ?_, rfl, rfl, rfl, rfl, rfl⟩
  have hrow := selectReaction_eq Config.pibus pkt
  rw [← exec_dispatch]
  split_ifs at hrow ⊢
  case neg => exact exec_dispatch_of_select_none pkt s hrow
  all_goals exact exec_dispatch_of_select_some pkt s _ hrow

/-! FOB -/

theorem exec_fob (pkt : Packet) (s : State) :
    exec (.fob pkt) s = .next ((s.setDev (reactFob Config.pibus pkt s.dev)).answer .nothing) := rfl

theorem fobPressed_iff (c : Params) (pkt : Packet) (h : c.fobIdx < pkt.length) :
    fobPressed c pkt = true ↔ pkt[c.fobIdx] &&& c.fobMask = c.fobVal := by
  rw [fobPressed, beq_iff_eq, packetByte, List.getD_eq_getElem pkt 0 h]

theorem reactFob_of_pressed (c : Params) (pkt : Packet) (d : Dev) (h : fobPressed c pkt = true) :
    reactFob c pkt d = if d.holdArmed then d else { d with holdArmed := true, holdTimer := c.holdTicks } := by
  rw [reactFob, if_pos h]

/-- A release fires on an armed timer that has run out, and disarms (42_reactions.md R134). -/
theorem reactFob_of_released (c : Params) (pkt : Packet) (d : Dev) (h : fobPressed c pkt = false) :
    reactFob c pkt d =
      if d.holdArmed = true ∧ d.holdTimer = 0 then
        { d with
          holdArmed := false, holdTimer := 0, relayTimer := c.relayPulseTicks, ledReq := some .blinkAll
          ledTimer := c.ledDisplayTicks, ledClearPending := false }
      else { d with holdArmed := false, holdTimer := 0 } := by
  rw [reactFob, if_neg (Bool.eq_false_iff.mp h)]
  by_cases hfire : d.holdArmed = true ∧ d.holdTimer = 0
  · rw [if_pos (by simpa using hfire), if_pos hfire, requestLed_eq]
  · rw [if_neg (by simpa using hfire), if_neg hfire]

/-- Settles O20. -/
theorem fobArmsFiresAndDisarms : Obligations.FobArmsFiresAndDisarms := by
  unfold Obligations.FobArmsFiresAndDisarms
  intro pkt s h
  rw [exec_fob]
  cases hpressed : fobPressed Config.pibus pkt with
  | true => rw [reactFob_of_pressed _ pkt _ hpressed, if_pos ((fobPressed_iff _ pkt h).mp hpressed)]; rfl
  | false =>
    rw [reactFob_of_released _ pkt _ hpressed, if_neg (mt (fobPressed_iff _ pkt h).mpr (Bool.eq_false_iff.mp hpressed))]
    rfl

/-! The two sources -/

/-- The sources are equal, or the camera shows (42_reactions.md R133). -/
def Dev.SourcesAgree (d : Dev) : Prop := d.videoSource = d.savedSource ∨ d.videoSource = .camera

/-- Sources and their agreement depend on the two source elements alone. -/
theorem Dev.SourcesAgree.of_eq {d e : Dev} (h : d.SourcesAgree) (hv : e.videoSource = d.videoSource)
    (hs : e.savedSource = d.savedSource) : e.SourcesAgree := by
  rwa [SourcesAgree, hv, hs]

/-- FOB does not touch the sources (42_reactions.md R134). -/
theorem reactFob_sources (c : Params) (pkt : Packet) (d : Dev) :
    (reactFob c pkt d).videoSource = d.videoSource ∧ (reactFob c pkt d).savedSource = d.savedSource := by
  cases h : fobPressed c pkt with
  | true => rw [reactFob_of_pressed c pkt d h]; split <;> exact ⟨rfl, rfl⟩
  | false => rw [reactFob_of_released c pkt d h]; split <;> exact ⟨rfl, rfl⟩

/-- A reaction saves the source it selects, restores the saved one, selects the camera, or leaves both alone. -/
theorem react_sourcesAgree (c : Params) (pkt : Packet) (d : Dev) (r : Reaction) (h : d.SourcesAgree) :
    (react c pkt d r).SourcesAgree := by
  cases r with
  | cycle => exact .inl rfl
  | gear =>
    simp only [react, reactGear]
    split
    · exact .inr rfl
    · exact .inl rfl
  | fob =>
    obtain ⟨hv, hs⟩ := reactFob_sources c pkt d
    exact h.of_eq hv hs
  | cdcEnter => exact .inl rfl
  | cdcExitBtn => exact .inl rfl
  | cdcExitMenu => exact .inl rfl

theorem dispatchPacket_pibus_sourcesAgree (pkt : Packet) (d : Dev) (h : d.SourcesAgree) :
    (dispatchPacket Config.pibus pkt d).SourcesAgree := by
  rw [dispatchPacket_pibus]
  cases selectReaction Config.pibus pkt with
  | none => exact h
  | some r => exact react_sourcesAgree _ pkt d r h

theorem completePacket_pibus_sourcesAgree (s : State) (h : s.dev.SourcesAgree) :
    (completePacket Config.pibus s).dev.SourcesAgree := by
  rw [completePacket_pibus]
  exact (dispatchPacket_pibus_sourcesAgree _ _ h).of_eq rfl rfl

/-- Settles O45. -/
theorem sourcesDifferOnlyInReverse : Obligations.SourcesDifferOnlyInReverse := by
  unfold Obligations.SourcesDifferOnlyInReverse
  intro i s t h hsetsrc (hs : s.dev.SourcesAgree)
  suffices t.dev.SourcesAgree from this
  rcases exec_dev_cases i s t h with e | ⟨pkt, r, _, e⟩ | ⟨d, f, _, e⟩ | ⟨l, _, e⟩ | ⟨_, e⟩ | ⟨_, e⟩ | ⟨pkt, _, e⟩ |
    ⟨v, save, hi, _⟩ | ⟨code, r, _, e⟩
  · rwa [e]
  · rw [e]
    exact react_sourcesAgree _ pkt s.dev r hs
  · rcases receiveByte_dev_cases d f s with e' | ⟨r, e'⟩ <;> rw [e, e']
    · exact hs
    · exact completePacket_pibus_sourcesAgree (s.setRxc r) hs
  · rw [e, deviceTick_pibus]
    exact hs.of_eq rfl rfl
  · rw [e]
    exact completePacket_pibus_sourcesAgree s hs
  · rw [e]
    exact .inl rfl
  · rw [e]
    exact dispatchPacket_pibus_sourcesAgree pkt s.dev hs
  · exact absurd hi (hsetsrc v save)
  · rw [e]
    exact hs.of_eq rfl rfl

end Sys2Proof.Machine
end

section
/-! PROOFS. What a DTICK drives (43_tick.md): the LED messages, the heartbeat, the idle-power law, and the long press over any
number of DTICKs. -/

namespace Sys2Proof.Machine

open Sys2Proof

/-! TXEMIT, and what a DTICK leaves alone -/

/-- Settles O24. -/
theorem txemitEmitsOneFramedPacket : Obligations.TxemitEmitsOneFramedPacket := by
  unfold Obligations.TxemitEmitsOneFramedPacket
  exact fun body s => ⟨framed (body ++ [0]), exec_frame_of_ne_nil _ s (List.concat_ne_nil 0 body), exec_txemit body s⟩

/-- The timeout step clears no byte (41_receive.md R117, R118). -/
@[simp] theorem timeoutStep_acc (r : Rxc) : (timeoutStep r).acc = r.acc := by
  rcases timeoutStep_cases r with ⟨_, e⟩ | ⟨_, e⟩ <;> rw [e]
  exact accReset_acc r

/-- Settles O25. -/
theorem dtickCompletesWithItsFrame : Obligations.DtickCompletesWithItsFrame := by
  unfold Obligations.DtickCompletesWithItsFrame
  intro l s
  refine ⟨_, exec_dtick l s, ?_⟩
  rw [deviceTick_pibus]
  exact ⟨rfl, rfl, rfl, rfl, timeoutStep_acc s.rxc, rfl, rfl⟩

/-! The heartbeat -/

theorem powerEnable_pibus_iff (d : Dev) : powerEnable Config.pibus d = true ↔ 360 ≤ d.idleCounter := decide_eq_true_iff

/-- The heartbeat step as one case distinction (43_tick.md R153). -/
theorem heartbeatStep_counters (c : Params) (power : Bool) (d : Dev) :
    ((heartbeatStep c power d).hbDiv, (heartbeatStep c power d).hbLed) =
      if (if power then c.hbHalfSlow else c.hbHalfFast) ≤ d.hbDiv + 1 then (0, !d.hbLed) else (d.hbDiv + 1, d.hbLed) := by
  rw [heartbeatStep_eq]
  by_cases hfull : (if power then c.hbHalfSlow else c.hbHalfFast) ≤ d.hbDiv + 1
  · simp only [hfull, if_true]
  · simp only [hfull, if_false]

/-- Settles O26. -/
theorem dtickAdvancesTheHeartbeat : Obligations.DtickAdvancesTheHeartbeat := by
  unfold Obligations.DtickAdvancesTheHeartbeat
  intro l s
  refine ⟨_, exec_dtick l s, ?_⟩
  rw [State.answer_dev, deviceTick_pibus]
  simp only [heartbeatStep_counters, powerEnable_pibus_iff]

/-! The LED step -/

theorem txPermitted_iff (l : Bool) (r : Rxc) : txPermitted l r = true ↔ l = true ∧ r.cursor = 0 := by
  rw [txPermitted, Bool.and_eq_true, beq_iff_eq]

/-- A clear is due after the countdown of this DTICK (43_tick.md R156). -/
def clearDue (d : Dev) : Bool := d.ledClearPending || decide (d.ledTimer = 1)

theorem clearDue_iff (d : Dev) : clearDue d = true ↔ d.ledClearPending = true ∨ d.ledTimer = 1 := by
  rw [clearDue, Bool.or_eq_true, decide_eq_true_iff]

/-- The LED message of a DTICK with a request: its pattern, if transmission is permitted (43_tick.md R156). -/
theorem ledMessage_of_request (txOk : Bool) (d : Dev) (p : LedPattern) (h : d.ledReq = some p) :
    ledMessage txOk d = if txOk then some (.pattern p) else none := by
  rw [ledMessage, h]

/-- The LED message of a DTICK without a request: CLEAR, if it is due and transmission is permitted (43_tick.md R156). -/
theorem ledMessage_of_no_request (txOk : Bool) (d : Dev) (h : d.ledReq = none) :
    ledMessage txOk d = if clearDue d && txOk then some .clear else none := by
  rw [ledMessage, h, ledCountdown_eq]
  rfl

/-- The pending clear of a DTICK without a request: due and not transmitted (43_tick.md R156). -/
theorem deviceTick_pibus_ledClearPending (l : Bool) (s : State) (h : s.dev.ledReq = none) :
    (deviceTick Config.pibus l s).dev.ledClearPending = (clearDue s.dev && !txPermitted l s.rxc) := by
  rw [deviceTick_pibus]
  simp only [h, if_true, clearDue]

/-- What a DTICK emits is its LED message, through TXEMIT (43_tick.md R156, R158). -/
theorem deviceTick_pibus_out_of_message (l : Bool) (s : State) (m : LedMessage)
    (h : ledMessage (txPermitted l s.rxc) s.dev = some m) :
    ∃ u, exec (.txemit (Config.pibus.ledBody m)) s = .next u ∧ (deviceTick Config.pibus l s).out = u.out := by
  refine ⟨_, exec_txemit _ s, ?_⟩
  rw [deviceTick_pibus, h]
  rfl

theorem deviceTick_pibus_out_of_no_message (l : Bool) (s : State) (h : ledMessage (txPermitted l s.rxc) s.dev = none) :
    (deviceTick Config.pibus l s).out = s.out := by
  rw [deviceTick_pibus, h]
  exact List.append_nil _

/-- A DTICK with a request: the request goes when transmission is permitted, and the countdown waits (43_tick.md R156). -/
theorem deviceTick_pibus_of_request (l : Bool) (s : State) (p : LedPattern) (h : s.dev.ledReq = some p) :
    (deviceTick Config.pibus l s).dev.ledReq = (if txPermitted l s.rxc then none else some p) ∧
      (deviceTick Config.pibus l s).dev.ledTimer = s.dev.ledTimer ∧
      (deviceTick Config.pibus l s).dev.ledClearPending = s.dev.ledClearPending := by
  rw [deviceTick_pibus]
  simp only [h, reduceCtorEq, if_false, and_self]

/-- A DTICK without a request counts the display timer down (43_tick.md R156). -/
theorem deviceTick_pibus_of_no_request (l : Bool) (s : State) (h : s.dev.ledReq = none) :
    (deviceTick Config.pibus l s).dev.ledReq = none ∧
      (deviceTick Config.pibus l s).dev.ledTimer = s.dev.ledTimer - 1 := by
  rw [deviceTick_pibus]
  simp only [h, ite_self, if_true, and_self]

/-- Settles O29: the message of a DTICK is decided by the request, the clear that is due, and the permission at entry. -/
theorem dtickDrivesTheLeds : Obligations.DtickDrivesTheLeds := by
  unfold Obligations.DtickDrivesTheLeds
  intro l s
  refine ⟨_, exec_dtick l s, ?_⟩
  simp only [← txPermitted_iff, ← clearDue_iff, State.answer_dev, State.answer_out, Bool.not_eq_true]
  refine ⟨fun p hreq hok => ?_, fun p hreq hok => ?_, deviceTick_pibus_of_no_request l s, fun hreq hdue hok => ?_,
    fun hreq hdue hok => ?_, fun hreq hpending htimer => ?_⟩
  · obtain ⟨hnone, htimer, hclear⟩ := deviceTick_pibus_of_request l s p hreq
    rw [if_pos hok] at hnone
    exact ⟨hnone, htimer, hclear, deviceTick_pibus_out_of_message l s _ (by rw [ledMessage_of_request _ _ p hreq, if_pos hok])⟩
  · obtain ⟨hsome, htimer, hclear⟩ := deviceTick_pibus_of_request l s p hreq
    rw [hok] at hsome
    exact ⟨hsome, htimer, hclear, deviceTick_pibus_out_of_no_message l s (by rw [ledMessage_of_request _ _ p hreq, hok]; rfl)⟩
  · rw [deviceTick_pibus_ledClearPending l s hreq, hok]
    exact ⟨Bool.and_false _, deviceTick_pibus_out_of_message l s _ (by rw [ledMessage_of_no_request _ _ hreq, hdue, hok]; rfl)⟩
  · rw [deviceTick_pibus_ledClearPending l s hreq, hdue, hok]
    exact ⟨rfl, deviceTick_pibus_out_of_no_message l s (by rw [ledMessage_of_no_request _ _ hreq, hok, Bool.and_false]; rfl)⟩
  · have hnotdue : clearDue s.dev = false := by rw [clearDue, hpending, decide_eq_false htimer, Bool.or_false]
    rw [deviceTick_pibus_ledClearPending l s hreq, hnotdue]
    exact ⟨rfl, deviceTick_pibus_out_of_no_message l s (by rw [ledMessage_of_no_request _ _ hreq, hnotdue]; rfl)⟩

/-! The idle-power law -/

/-- Prescaler and idle counter after `k` DTICKs from zero: `k` in units of 150, the units saturating at 360 (43_tick.md R154). -/
def idleAfter (k : Nat) (d : Dev) : Prop := d.secDiv = k % 150 ∧ d.idleCounter = min (k / 150) 360

/-- One DTICK more. -/
theorem secondStep_idleAfter (k : Nat) (d : Dev) (h : idleAfter k d) : idleAfter (k + 1) (secondStep Config.pibus d) := by
  obtain ⟨hsec, hidle⟩ := h
  have hstep := secondStep_pibus_counters d
  unfold idleAfter
  by_cases hfull : 150 ≤ d.secDiv + 1
  · rw [if_pos hfull, Prod.mk.injEq] at hstep
    rw [hstep.1, hstep.2]
    refine ⟨by omega, ?_⟩
    split <;> omega
  · rw [if_neg hfull, Prod.mk.injEq] at hstep
    rw [hstep.1, hstep.2]
    omega

/-- A byte that completes no packet leaves DEV state alone (41_receive.md R111 to R113). -/
theorem exec_rxbyte_dev_of_not_completesPacket (d : Byte) (f : BitVec 3) (s t : State) (h : exec (.rxbyte d f) s = .next t)
    (hcursor : s.rxc.cursor ≤ 32) (hc : ¬ completesPacket (.rxbyte d f) s) : t.dev = s.dev := by
  cases h
  rcases receiveByte_cases d f s with ⟨_, e⟩ | ⟨_, _, e⟩ | ⟨hf, hroom, hk, _⟩ | ⟨_, _, _, e⟩
  · rw [e, State.answer_dev]
  · rw [e, State.answer_dev, State.emit_dev]
  · subst hf
    exact absurd ((completesPacket_rxbyte_iff d s).mpr ⟨by omega, hk⟩) hc
  · rw [e, State.answer_dev, State.setRxc_dev]

/-- An event of a quiet run counts if it is a DTICK, and leaves both counters alone otherwise (43_tick.md R159). -/
theorem exec_idleAfter (k : Nat) (i : Instr) (s t : State) (h : exec i s = .next t) (hcursor : s.rxc.cursor ≤ 32)
    (hevent : Instr.isEvent i = true) (hreset : i ≠ .reset) (hc : ¬ completesPacket i s) (hk : idleAfter k s.dev) :
    idleAfter (k + dticks [i]) t.dev := by
  by_cases htick : ∃ l, i = .dtick l
  · obtain ⟨l, rfl⟩ := htick
    cases h
    obtain ⟨hsec, hidle⟩ := secondStep_idleAfter k s.dev hk
    exact ⟨(deviceTick_pibus_secDiv l s).trans hsec, (deviceTick_pibus_idleCounter l s).trans hidle⟩
  · have hzero : dticks [i] = 0 := by rw [dticks_cons, if_neg htick, dticks_nil]
    rw [hzero, Nat.add_zero]
    by_cases hbyte : ∃ d f, i = .rxbyte d f
    · obtain ⟨d, f, rfl⟩ := hbyte
      rwa [exec_rxbyte_dev_of_not_completesPacket d f s t h hcursor hc]
    · have hcomplete : i ≠ .complete := by
        rintro rfl
        cases hevent
      obtain ⟨hsec, hidle⟩ :=
        dtickCountsIdleSeconds.2 i s t h hreset hcomplete (fun l hi => htick ⟨l, hi⟩) (fun d f hi => hbyte ⟨d, f, hi⟩)
      rwa [idleAfter, hsec, hidle]

/-- A quiet run completes and counts its DTICKs (43_tick.md R159). -/
theorem runOps_idleAfter (k : Nat) (is : List Instr) (s : State) (hs : s.Inv Config.pibus) (hquiet : QuietRun is s)
    (hk : idleAfter k s.dev) : ∃ t, runOps is s = .next t ∧ idleAfter (k + dticks is) t.dev := by
  induction is generalizing k s with
  | nil => exact ⟨s, runOps_nil s, hk⟩
  | cons i is ih =>
    obtain ⟨hevent, hreset, hc, hrest⟩ := hquiet
    have hinv := hs
    obtain ⟨⟨_, hcursor, _⟩, _⟩ := hs
    obtain ⟨u, hu⟩ := exec_completes i s
    have hcounted := exec_idleAfter k i s u hu hcursor hevent hreset hc hk
    obtain ⟨t, hrun, ht⟩ := ih _ u (exec_keeps_inv i s u hu hinv) (hrest u hu) hcounted
    refine ⟨t, (runOps_cons i is s u hu).trans hrun, ?_⟩
    have hsum : dticks (i :: is) = dticks [i] + dticks is := by rw [dticks_cons, dticks_cons i [], dticks_nil]; omega
    rwa [hsum, ← Nat.add_assoc]

/-- Settles O30: 360 units of 150 DTICKs are 54000. -/
theorem idlePowerLaw : Obligations.IdlePowerLaw := by
  unfold Obligations.IdlePowerLaw
  intro is s hs hidle hsec hquiet
  obtain ⟨t, hrun, _, hcount⟩ := runOps_idleAfter 0 is s hs hquiet ⟨by rw [hsec], by rw [hidle]; rfl⟩
  refine ⟨t, hrun, ?_⟩
  rw [powerEnable_pibus_iff, hcount, Nat.zero_add]
  omega

/-! The long press, for any choice of the parameters -/

/-- A DTICK with a DEV unit lowers the relay and the long-press timer and keeps the press armed (43_tick.md R155, R157). -/
theorem deviceTick_timers (c : Params) (l : Bool) (s : State) (hc : c.hasDev = true) :
    (deviceTick c l s).dev.relayTimer = s.dev.relayTimer - 1 ∧ (deviceTick c l s).dev.holdTimer = s.dev.holdTimer - 1 ∧
      (deviceTick c l s).dev.holdArmed = s.dev.holdArmed := by
  simp only [deviceTick, hc, if_true, ledStep_eq, State.setDev_dev, State.setRxc_dev, relayStep, holdStep, dec0,
    heartbeatStep_eq, secondStep_eq, and_self]

/-- Any number of DTICKs with a DEV unit. -/
theorem foldl_deviceTick_timers (c : Params) (ls : List Bool) (s : State) (hc : c.hasDev = true) :
    let t := ls.foldl (fun u l => deviceTick c l u) s
    t.dev.relayTimer = s.dev.relayTimer - ls.length ∧ t.dev.holdTimer = s.dev.holdTimer - ls.length ∧
      t.dev.holdArmed = s.dev.holdArmed := by
  induction ls generalizing s with
  | nil => exact ⟨rfl, rfl, rfl⟩
  | cons l ls ih =>
    obtain ⟨hrelay, hhold, harmed⟩ := deviceTick_timers c l s hc
    obtain ⟨hrelays, hholds, harmeds⟩ := ih (deviceTick c l s)
    refine ⟨hrelays.trans ?_, hholds.trans ?_, harmeds.trans harmed⟩
    · rw [hrelay, List.length_cons]
      omega
    · rw [hhold, List.length_cons]
      omega

/-- Settles O31: the timer loaded at the press has run out exactly if HOLD_TICKS DTICKs have passed. -/
theorem longPressFiresAfterHoldTicks : Obligations.LongPressFiresAfterHoldTicks := by
  unfold Obligations.LongPressFiresAfterHoldTicks
  intro c press release ls s hc hpress hrelease hdisarmed
  have hpressed : reactFob c press s.dev = { s.dev with holdArmed := true, holdTimer := c.holdTicks } := by
    rw [reactFob_of_pressed c press s.dev hpress, hdisarmed]
    rfl
  obtain ⟨hrelay, hhold, harmed⟩ := foldl_deviceTick_timers c ls (s.setDev (reactFob c press s.dev)) hc
  intro held d
  have hd : d = _ := reactFob_of_released c release held.dev hrelease
  have hfire : (held.dev.holdArmed = true ∧ held.dev.holdTimer = 0) ↔ c.holdTicks ≤ ls.length := by
    rw [harmed, hhold, State.setDev_dev, hpressed]
    simp only [true_and]
    omega
  by_cases hlong : c.holdTicks ≤ ls.length
  · rw [if_pos (hfire.mpr hlong)] at hd
    rw [hd]
    exact ⟨rfl, rfl, fun _ => ⟨rfl, rfl⟩, fun hshort => by omega⟩
  · rw [if_neg (mt hfire.mp hlong)] at hd
    rw [hd]
    refine ⟨rfl, rfl, fun h => absurd h hlong, fun _ => ⟨?_, rfl⟩⟩
    rw [hrelay, State.setDev_dev, hpressed]

end Sys2Proof.Machine
end

section
/-! PROOFS. Give-up and the sync ordering rule of a STICK (44_txqueue.md R177, R178), and the give-up law of one entry under any
number of STICKs. -/

namespace Sys2Proof.Machine

open Sys2Proof

/-! Give-up -/

/-- The scan ends at a visited entry that gives up and changes nothing there (44_txqueue.md R178). -/
theorem scanFrom_pibus_of_givesUp (lg : Bool) (i : Nat) (e : Entry) (rest : List Entry) (hs : i = 0 ∨ e.sync = false)
    (hg : givesUp lg e) :
    scanFrom Config.pibus lg i (e :: rest) = { entries := e :: rest, events := [], giveUpAt := some i } := by
  have hgo : ¬ (e.sync && i != 0) = true := by
    rcases hs with rfl | hs <;> simp [*]
  obtain ⟨hdue, hretry⟩ : e.countdown = 0 ∧ Config.pibus.retryLimit < e.attempts ∧ lg = false := hg
  rw [scanFrom, if_neg hgo, if_pos hdue, if_pos hretry]

/-- The scan of a whole queue up to an entry that gives up: the entries before it are handled as in any scan. -/
theorem scanFrom_pibus_append_givesUp (lg : Bool) (before : List Entry) (e : Entry) (rest : List Entry)
    (hs : ∀ x ∈ (before ++ [e]).tail, x.sync = false) (hb : ∀ x ∈ before, ¬ givesUp lg x) (hg : givesUp lg e) :
    scanFrom Config.pibus lg 0 (before ++ e :: rest) =
      { entries := before.map visited ++ e :: rest
        events := before.flatMap visitEvents
        giveUpAt := some before.length } := by
  cases before with
  | nil => exact scanFrom_pibus_of_givesUp lg 0 e rest (.inl rfl) hg
  | cons x before =>
    rw [List.cons_append, List.tail_cons, List.forall_mem_append, List.forall_mem_singleton] at hs
    rw [List.forall_mem_cons] at hb
    rw [List.cons_append, scanFrom_pibus_cons lg 0 x _ (.inl rfl) hb.1,
      scanFrom_pibus_append lg (0 + 1) before _ (Nat.succ_ne_zero 0) hs.1 hb.2,
      scanFrom_pibus_of_givesUp lg _ e rest (.inr hs.2) hg]
    simp only [List.map_cons, List.flatMap_cons, List.cons_append, List.append_nil, List.length_cons, Nat.zero_add,
      Nat.add_comm 1]

/-- A clear STICK whose scan gives up takes over the scan's entries and events, clears the attempts of the entry that gave up,
and emits no TX_FLUSH (44_txqueue.md R178; decision D31). -/
theorem exec_clearStick_of_giveUp (s : State) (r : Scan) (i : Nat)
    (hr : scanFrom Config.pibus s.txq.linkGood 0 (s.txq.queue.map entryTick) = r) (hg : r.giveUpAt = some i) :
    exec clearStick s = .next
      { s with
        txq := { s.txq with queue := r.entries.modify i clearAttempts }
        out := s.out ++ r.events
        result := .stick false true } := by
  subst hr
  rw [clearStick, exec_stick]
  rcases serviceTick_cases Config.pibus true true true true s with ⟨hq, _⟩ | ⟨_, _, hbusy, _⟩ | ⟨_, _, _, _, _, e⟩
  · rw [hq.resolve_left Bool.true_eq_false.mp] at hg
    cases hg
  · exact absurd ⟨rfl, rfl, rfl⟩ hbusy
  · rcases e with ⟨j, hj, e⟩ | ⟨hnone, _⟩ | ⟨hnone, _⟩
    · cases hj.symm.trans hg
      rw [e]
      rfl
    · cases hnone.symm.trans hg
    · cases hnone.symm.trans hg

/-- Behind the head no visited entry is a sync entry (44_txqueue.md R177). -/
theorem sync_of_mem_tail_scanned (q : List Entry) (x : Entry) (h : x ∈ (scanned q).tail) : x.sync = false := by
  cases q with
  | nil => cases h
  | cons e rest => simpa using List.mem_takeWhile_imp h

/-- The visited entries are the first ones of the queue (44_txqueue.md R177). -/
theorem scanned_prefix (q : List Entry) : scanned q <+: q := by
  cases q with
  | nil => exact List.prefix_rfl
  | cons e rest => exact (List.prefix_cons_inj e).mpr (List.takeWhile_prefix _)

theorem modify_length_append {α : Type} (f : α → α) (l : List α) (a : α) (r : List α) :
    (l ++ a :: r).modify l.length f = l ++ f a :: r := by
  induction l with
  | nil => rfl
  | cons b l ih => rw [List.cons_append, List.length_cons, List.modify_succ_cons, ih, List.cons_append]

/-- Settles O36: the queue is the visited entries up to the one that gives up, and whatever follows. -/
theorem stickGivesUpOnAnUnprovenLink : Obligations.StickGivesUpOnAnUnprovenLink := by
  unfold Obligations.StickGivesUpOnAnUnprovenLink
  intro s before e after q hscanned hb hg
  obtain ⟨behind, hq⟩ := scanned_prefix q
  rw [hscanned, List.append_assoc, List.cons_append] at hq
  have hsync : ∀ x ∈ (before ++ [e]).tail, x.sync = false := fun x hx => by
    refine sync_of_mem_tail_scanned q x ?_
    rw [hscanned, ← List.singleton_append, ← List.append_assoc, List.tail_append_of_ne_nil (List.concat_ne_nil e before)]
    exact List.mem_append_left _ hx
  have hscan := scanFrom_pibus_append_givesUp s.txq.linkGood before e (after ++ behind) hsync hb hg
  rw [hq] at hscan
  have hdrop : q.drop (before.length + 1) = after ++ behind := by
    rw [← hq, ← List.drop_drop, List.drop_left, List.drop_one, List.tail_cons]
  have hentry := modify_length_append clearAttempts (before.map visited) e (after ++ behind)
  rw [List.length_map] at hentry
  rw [exec_clearStick_of_giveUp s _ _ hscan rfl, hdrop]
  simp only [hentry]
  rfl

/-! The sync ordering rule -/

/-- From a sync entry that is not the head on, the scan changes nothing, and it gives up before that entry only
(44_txqueue.md R177). -/
theorem scanFrom_behind_sync (c : Params) (lg : Bool) (before : List Entry) (e : Entry) (after : List Entry)
    (hs : e.sync = true) (i : Nat) (hi : i ≠ 0 ∨ before ≠ []) :
    (scanFrom c lg i (before ++ e :: after)).entries.drop before.length = e :: after ∧
      ∀ j, (scanFrom c lg i (before ++ e :: after)).giveUpAt = some j → j < i + before.length := by
  induction before generalizing i with
  | nil =>
    rw [List.nil_append, scanFrom_sync c lg i e after (by simpa using hi) hs]
    exact ⟨rfl, nofun⟩
  | cons x before ih =>
    obtain ⟨hentries, hgiveUp⟩ := ih (i + 1) (.inl (Nat.succ_ne_zero i))
    have hrest : ∀ j, (scanFrom c lg (i + 1) (before ++ e :: after)).giveUpAt = some j → j < i + (x :: before).length :=
      fun j hj => by
        have := hgiveUp j hj
        rw [List.length_cons]
        omega
    rw [List.cons_append, scanFrom, List.length_cons]
    split
    · exact ⟨List.drop_left, nofun⟩
    · split
      · split
        · refine ⟨List.drop_left, fun j hj => ?_⟩
          cases hj
          omega
        · exact ⟨hentries, hrest⟩
      · exact ⟨hentries, hrest⟩

/-- What was sent ahead of a sync entry, as entries of the queue before the countdowns fell. -/
theorem scanFrom_entryTick_sent (c : Params) (lg : Bool) (before : List Entry) (e : Entry) (after : List Entry)
    (hs : e.sync = true) (hb : before ≠ []) :
    ∃ sent : List Entry, sent.Sublist before ∧
      (scanFrom c lg 0 ((before ++ e :: after).map entryTick)).events =
        sent.flatMap fun x => [.tx x.bytes, .observe x.bytes] := by
  obtain ⟨_, hsub, hevents⟩ := scanFrom_sent c lg (before.map entryTick) (entryTick e) (after.map entryTick) hs 0
    (.inr (mt List.map_eq_nil_iff.mp hb))
  obtain ⟨sent, hsent, rfl⟩ := List.sublist_map_iff.mp hsub
  refine ⟨sent, hsent, ?_⟩
  rw [List.map_append, List.map_cons, hevents, List.flatMap_map]
  rfl

/-- A STICK takes one from the countdowns from a sync entry that is not the head on, and does nothing else to these entries. -/
theorem serviceTick_drop_of_sync (c : Params) (ct cts li rxe : Bool) (s : State) (before : List Entry) (e : Entry)
    (after : List Entry) (hq : s.txq.queue = before ++ e :: after) (hb : before ≠ []) (hs : e.sync = true) :
    (serviceTick c ct cts li rxe s).txq.queue.drop before.length = (e :: after).map entryTick := by
  have hticked : s.txq.queue.map entryTick = before.map entryTick ++ entryTick e :: after.map entryTick := by
    rw [hq, List.map_append, List.map_cons]
  obtain ⟨hentries, hgiveUp⟩ := scanFrom_behind_sync c s.txq.linkGood (before.map entryTick) (entryTick e)
    (after.map entryTick) hs 0 (.inr (mt List.map_eq_nil_iff.mp hb))
  rw [← hticked, List.length_map] at hentries hgiveUp
  rcases serviceTick_queue_cases c ct cts li rxe s with ⟨e', _⟩ | ⟨e', _⟩ | ⟨i, hi, e', _⟩ <;> rw [e']
  · rw [hq, ← List.map_drop, List.drop_left]
  · rw [hentries, List.map_cons]
  · rw [List.drop_modify_of_lt _ _ _ _ (by simpa using hgiveUp i hi), hentries, List.map_cons]

/-- Settles O37. -/
theorem syncEntryHoldsBackWhatIsBehind : Obligations.SyncEntryHoldsBackWhatIsBehind := by
  unfold Obligations.SyncEntryHoldsBackWhatIsBehind
  intro ct cts li rxe s
  obtain ⟨hrxc, hdev, hinbox, _, hlink⟩ := serviceTick_frame Config.pibus ct cts li rxe s
  refine ⟨_, exec_stick ct cts li rxe s, serviceTick_keeps _ ct cts li rxe s, hlink, hrxc, hdev, hinbox, ?_⟩
  intro before e after hq hb hs
  refine ⟨serviceTick_drop_of_sync _ ct cts li rxe s before e after hq hb hs, ?_⟩
  obtain ⟨sent, hsub, hevents⟩ := scanFrom_entryTick_sent Config.pibus s.txq.linkGood before e after hs hb
  rw [← hq] at hevents
  rcases serviceTick_queue_cases Config.pibus ct cts li rxe s with ⟨_, e'⟩ | ⟨_, e' | e'⟩ | ⟨_, _, _, e'⟩ <;> rw [e']
  · exact ⟨[], List.nil_sublist _, .inl (List.append_nil _).symm⟩
  · exact ⟨sent, hsub, .inl (by rw [hevents])⟩
  · exact ⟨sent, hsub, .inr (by rw [hevents])⟩
  · exact ⟨sent, hsub, .inl (by rw [hevents])⟩

/-! One entry under any number of STICKs -/

/-- Repeating one operation that keeps a numbered invariant: the output trace gathers what each number emits, and the answer is
that of the last number. -/
theorem runOps_replicate (i : Instr) (inv : Nat → State → Prop) (emitted : Nat → List OutEvent) (answered : Nat → Result)
    (hstep : ∀ n s, inv n s → ∃ t, exec i s = .next t ∧ inv (n + 1) t ∧ t.out = s.out ++ emitted n ∧
      t.result = answered (n + 1)) (n : Nat) (s : State) (hs : inv 0 s) :
    ∃ t, runOps (List.replicate n i) s = .next t ∧ inv n t ∧ t.out = s.out ++ (List.range n).flatMap emitted ∧
      (0 < n → t.result = answered n) := by
  induction n with
  | zero => exact ⟨s, runOps_nil s, hs, (List.append_nil _).symm, fun h => absurd h (Nat.lt_irrefl 0)⟩
  | succ n ih =>
    obtain ⟨t, hrun, hinv, hout, _⟩ := ih
    obtain ⟨u, hu, hinv', hout', hres⟩ := hstep n t hinv
    refine ⟨u, ?_, hinv', ?_, fun _ => hres⟩
    · rw [List.replicate_succ', runOps_append _ _ s t hrun]
      exact runOps_cons i [] t u hu
    · rw [hout', hout, List.range_succ, List.flatMap_append, List.flatMap_singleton, List.append_assoc]

/-- What a STICK emits that sends one entry. -/
def sendEvents (b : Packet) : List OutEvent := [.tx b, .observe b, .txFlush]

/-- A clear STICK on one entry that does not give up sends it if its countdown has run out (44_txqueue.md R179, R180). -/
theorem exec_clearStick_of_singleton (s : State) (e : Entry) (hq : s.txq.queue = [e])
    (hg : ¬ givesUp s.txq.linkGood (entryTick e)) :
    exec clearStick s = .next
      { s with
        txq := { s.txq with queue := [visited (entryTick e)] }
        out := s.out ++ if (entryTick e).countdown = 0 then sendEvents e.bytes else []
        result := .stick false false } := by
  have hsent := scanFrom_pibus_of_not_givesUp s.txq.linkGood [entryTick e] (List.forall_mem_singleton.mpr hg)
  have hscan := (congrArg (fun q => scanFrom Config.pibus s.txq.linkGood 0 (q.map entryTick)) hq).trans hsent
  rw [exec_clearStick_of_no_giveUp s _ hscan rfl]
  simp only [scanned, List.takeWhile_nil, List.flatMap_singleton, visitEvents, entryTick_bytes, List.append_assoc]
  split <;> rfl

/-- A clear STICK on one entry that gives up (44_txqueue.md R178). -/
theorem exec_clearStick_of_singleton_givesUp (s : State) (e : Entry) (hq : s.txq.queue = [e])
    (hg : givesUp s.txq.linkGood (entryTick e)) :
    exec clearStick s = .next
      { s with
        txq := { s.txq with queue := [clearAttempts (entryTick e)] }
        out := s.out ++ []
        result := .stick false true } := by
  have hends := scanFrom_pibus_of_givesUp s.txq.linkGood 0 (entryTick e) [] (.inl rfl) hg
  have hscan := (congrArg (fun q => scanFrom Config.pibus s.txq.linkGood 0 (q.map entryTick)) hq).trans hends
  rw [exec_clearStick_of_giveUp s _ 0 hscan rfl]
  rfl

/-- The entry after `n` STICKs on an unproven link: sent in STICKs 1, 11, 21, 31 of every 41, its countdown loaded with 10 by
each; after the give-up of STICK 41 the countdown stays 0. -/
def unprovenPhase (b : Packet) (n : Nat) (e : Entry) : Prop :=
  e.bytes = b ∧ e.attempts = (n % 41 + 9) / 10 ∧ (e.countdown = 10 - (n % 41 + 9) % 10 ∨ n % 41 = 0 ∧ e.countdown = 0)

/-- The entry after `n` STICKs on a proven link: sent in STICKs 1, 11, 21, ... -/
def provenPhase (b : Packet) (n : Nat) (e : Entry) : Prop := e.bytes = b ∧ e.countdown = 10 - (n + 9) % 10

/-- Just STICK 41 of every 41 gives up. -/
theorem unprovenPhase_givesUp_iff (b : Packet) (n : Nat) (e : Entry) (h : unprovenPhase b n e) :
    givesUp false (entryTick e) ↔ n % 41 = 40 := by
  obtain ⟨_, hatt, hcount⟩ := h
  simp only [givesUp, entryTick_countdown, entryTick_attempts, and_true]
  omega

theorem unprovenPhase_due_iff (b : Packet) (n : Nat) (e : Entry) (h : unprovenPhase b n e) (hn : n % 41 ≠ 40) :
    (entryTick e).countdown = 0 ↔ n % 41 ∈ [0, 10, 20, 30] := by
  obtain ⟨_, _, hcount⟩ := h
  simp only [entryTick_countdown, List.mem_cons, List.not_mem_nil, or_false]
  omega

theorem provenPhase_due_iff (b : Packet) (n : Nat) (e : Entry) (h : provenPhase b n e) :
    (entryTick e).countdown = 0 ↔ n % 10 = 0 := by
  obtain ⟨_, hcount⟩ := h
  rw [entryTick_countdown]
  omega

@[simp] theorem visited_bytes (e : Entry) : (visited e).bytes = e.bytes := by
  unfold visited
  split <;> rfl

theorem visited_countdown (e : Entry) : (visited e).countdown = if e.countdown = 0 then 10 else e.countdown := by
  unfold visited
  split <;> rfl

theorem visited_attempts (e : Entry) :
    (visited e).attempts = if e.countdown = 0 then min (e.attempts + 1) 255 else e.attempts := by
  unfold visited
  split <;> rfl

theorem unprovenPhase_visited (b : Packet) (n : Nat) (e : Entry) (h : unprovenPhase b n e) (hn : n % 41 ≠ 40) :
    unprovenPhase b (n + 1) (visited (entryTick e)) := by
  obtain ⟨hbytes, hatt, hcount⟩ := h
  have hnext : (n + 1) % 41 = n % 41 + 1 := by omega
  refine ⟨by rw [visited_bytes, entryTick_bytes, hbytes], ?_, .inl ?_⟩ <;> rw [hnext]
  · rw [visited_attempts, entryTick_countdown, entryTick_attempts]
    split <;> omega
  · rw [visited_countdown, entryTick_countdown]
    split <;> omega

theorem unprovenPhase_clearAttempts (b : Packet) (n : Nat) (e : Entry) (h : unprovenPhase b n e) (hn : n % 41 = 40) :
    unprovenPhase b (n + 1) (clearAttempts (entryTick e)) := by
  obtain ⟨hbytes, _, hcount⟩ := h
  have hwrap : (n + 1) % 41 = 0 := by omega
  refine ⟨hbytes, by rw [hwrap]; rfl, .inr ⟨hwrap, ?_⟩⟩
  rw [clearAttempts, entryTick_countdown]
  omega

theorem provenPhase_visited (b : Packet) (n : Nat) (e : Entry) (h : provenPhase b n e) :
    provenPhase b (n + 1) (visited (entryTick e)) := by
  obtain ⟨hbytes, hcount⟩ := h
  refine ⟨by rw [visited_bytes, entryTick_bytes, hbytes], ?_⟩
  rw [visited_countdown, entryTick_countdown]
  split <;> omega

/-- TXQ holds one entry, in a given phase, on a link of the given quality. -/
def holdsOne (linkGood : Bool) (phase : Nat → Entry → Prop) (n : Nat) (s : State) : Prop :=
  ∃ e, s.txq = { queue := [e], linkGood := linkGood } ∧ phase n e

theorem exec_clearStick_unproven (b : Packet) (n : Nat) (s : State) (h : holdsOne false (unprovenPhase b) n s) :
    ∃ t, exec clearStick s = .next t ∧ holdsOne false (unprovenPhase b) (n + 1) t ∧
      t.out = s.out ++ (if n % 41 ∈ [0, 10, 20, 30] then sendEvents b else []) ∧
      t.result = .stick false (decide ((n + 1) % 41 = 0)) := by
  obtain ⟨e, htxq, hphase⟩ := h
  have hq : s.txq.queue = [e] := by rw [htxq]
  have hlink : s.txq.linkGood = false := by rw [htxq]
  have hgives := unprovenPhase_givesUp_iff b n e hphase
  rw [← hlink] at hgives
  by_cases hn : n % 41 = 40
  · refine ⟨_, exec_clearStick_of_singleton_givesUp s e hq (hgives.mpr hn),
      ⟨_, congrArg (Txq.mk _) hlink, unprovenPhase_clearAttempts b n e hphase hn⟩, ?_, ?_⟩
    · rw [hn]
      rfl
    · rw [decide_eq_true (by omega : (n + 1) % 41 = 0)]
  · refine ⟨_, exec_clearStick_of_singleton s e hq (mt hgives.mp hn),
      ⟨_, congrArg (Txq.mk _) hlink, unprovenPhase_visited b n e hphase hn⟩, ?_, ?_⟩
    · simp only [unprovenPhase_due_iff b n e hphase hn, hphase.1]
    · rw [decide_eq_false (by omega : ¬ (n + 1) % 41 = 0)]

theorem exec_clearStick_proven (b : Packet) (n : Nat) (s : State) (h : holdsOne true (provenPhase b) n s) :
    ∃ t, exec clearStick s = .next t ∧ holdsOne true (provenPhase b) (n + 1) t ∧
      t.out = s.out ++ (if n % 10 = 0 then sendEvents b else []) ∧ t.result = .stick false false := by
  obtain ⟨e, htxq, hphase⟩ := h
  have hq : s.txq.queue = [e] := by rw [htxq]
  have hlink : s.txq.linkGood = true := by rw [htxq]
  have hkeeps : ¬ givesUp s.txq.linkGood (entryTick e) := fun ⟨_, _, hunproven⟩ => by
    rw [hlink] at hunproven
    cases hunproven
  refine ⟨_, exec_clearStick_of_singleton s e hq hkeeps,
    ⟨_, congrArg (Txq.mk _) hlink, provenPhase_visited b n e hphase⟩, ?_, rfl⟩
  simp only [provenPhase_due_iff b n e hphase, hphase.1]

/-- Settles O40. -/
theorem giveUpLaw : Obligations.GiveUpLaw := by
  unfold Obligations.GiveUpLaw
  intro n e s hq hcount hatt
  have hone (lg : Bool) (hlink : s.txq.linkGood = lg) : s.txq = { queue := [e], linkGood := lg } := by rw [← hq, ← hlink]
  cases hlink : s.txq.linkGood with
  | false =>
    have hstart : holdsOne false (unprovenPhase e.bytes) 0 s := ⟨e, hone false hlink, rfl, hatt, .inl hcount⟩
    obtain ⟨t, hrun, _, hout, hres⟩ := runOps_replicate clearStick _ _ (fun n => .stick false (decide (n % 41 = 0)))
      (exec_clearStick_unproven e.bytes) n s hstart
    exact ⟨t, hrun, fun _ => ⟨hout, hres⟩, nofun⟩
  | true =>
    have hstart : holdsOne true (provenPhase e.bytes) 0 s := ⟨e, hone true hlink, rfl, hcount⟩
    obtain ⟨t, hrun, _, hout, hres⟩ := runOps_replicate clearStick _ _ (fun _ => .stick false false)
      (exec_clearStick_proven e.bytes) n s hstart
    exact ⟨t, hrun, nofun, fun _ => ⟨hout, hres⟩⟩

end Sys2Proof.Machine
end

section
/-! PROOFS. RESET, the level outputs, absent units, and operands without a stated result (10_state.md sections 3 and 7,
00_scope.md section 2, notes/assumptions/17), and the statements about them. -/

namespace Sys2Proof.Machine

open Sys2Proof

theorem exec_reset (s : State) :
    exec .reset s = .next { State.reset with inbox := s.inbox, freeCount := s.freeCount } := rfl

/-- Settles O49. -/
theorem resetRestoresEveryElement : Obligations.ResetRestoresEveryElement := by
  unfold Obligations.ResetRestoresEveryElement
  exact fun s => ⟨_, exec_reset s, rfl, rfl, rfl, rfl, rfl⟩

/-- Settles O50: each level reads one element, and VIDEO_LINES is injective. -/
theorem levelOutputsFollowTheState : Obligations.LevelOutputsFollowTheState := by
  unfold Obligations.LevelOutputsFollowTheState
  refine ⟨fun s => ⟨powerEnable_pibus_iff s.dev, auxRelay_eq_true_iff s.dev, rfl, rfl⟩, fun s t h => ?_,
    fun s t h => Config.pibus_wf.video_injective h⟩
  cases (exec_reset s).symm.trans h
  rfl

/-! Absent units -/

/-- Without DEV a DTICK is its receive timeout step (00_scope.md R4). -/
theorem deviceTick_of_no_dev (c : Params) (l : Bool) (s : State) (h : c.hasDev = false) :
    deviceTick c l s = { s with rxc := timeoutStep s.rxc } := by
  simp only [deviceTick, h]
  rfl

theorem dispatchPacket_of_no_dev (c : Params) (pkt : Packet) (d : Dev) (h : c.hasDev = false) : dispatchPacket c pkt d = d := by
  simp only [dispatchPacket, h]
  rfl

theorem completeDev_of_no_dev (c : Params) (pkt : Packet) (d : Dev) (h : c.hasDev = false) : completeDev c pkt d = d := by
  simp only [completeDev, h]
  rfl

theorem removeMatching_of_no_txq (c : Params) (b : Packet) (q : Txq) (h : c.hasTxq = false) : removeMatching c b q = q := by
  simp only [removeMatching, h]
  rfl

/-- A completion drops the packet or runs its whole sequence, whatever the parameters (41_receive.md R115, R116). -/
theorem completePacket_cases (c : Params) (s : State) :
    completePacket c s = s.setRxc (accReset s.rxc) ∨
    completePacket c s =
      { s with
        rxc := accReset s.rxc
        dev := completeDev c (accumulated s.rxc) s.dev
        txq := removeMatching c (accumulated s.rxc) s.txq } := by
  by_cases hv : c.rxVerifyChecksum = true → verified (accumulated s.rxc) = true
  · exact .inr (completePacket_of_accepted c s hv)
  · rw [Classical.not_imp, Bool.not_eq_true] at hv
    exact .inl (completePacket_of_dropped c s hv.1 hv.2)

/-- Settles O51. -/
theorem tickDispatchRemovalAndCompletionSkipAbsentUnits : Obligations.TickDispatchRemovalAndCompletionSkipAbsentUnits := by
  unfold Obligations.TickDispatchRemovalAndCompletionSkipAbsentUnits
  refine fun c => ⟨fun hdev => ⟨fun l s => deviceTick_of_no_dev c l s hdev, fun pkt d => dispatchPacket_of_no_dev c pkt d hdev,
    fun s => ?_⟩, fun htxq => ⟨fun b q => removeMatching_of_no_txq c b q htxq, fun s => ?_⟩⟩
  · rcases completePacket_cases c s with e | e <;> rw [e]
    · rfl
    · exact completeDev_of_no_dev c _ s.dev hdev
  · rcases completePacket_cases c s with e | e <;> rw [e]
    · rfl
    · exact removeMatching_of_no_txq c _ s.txq htxq

/-! Free values -/

/-- Settles O58. -/
theorem unstatedResultsAreFreeValues : Obligations.UnstatedResultsAreFreeValues := by
  unfold Obligations.UnstatedResultsAreFreeValues
  exact fun s => ⟨⟨Config.freeFrame s.freeCount, rfl⟩, ⟨Config.freeVerify s.freeCount, rfl⟩,
    ⟨Config.freeLedReq s.freeCount, rfl⟩⟩

end Sys2Proof.Machine
end
